-- ==== Sys2Proof/Word.lean ====
section
/-! DEFINITION. The word types of the nsgbe CORE (R20, R60): bytes, 16-bit words, 2-bit shades. Bit-field, byte-order
and sign-extension helpers stand in Machine/Bits.lean, where a repair can reach them. -/

namespace Sys2Proof

/-- An 8-bit register or memory byte (R20, R33). -/
abbrev Byte := BitVec 8

/-- A 16-bit pair, program counter, stack pointer or address (R20, R60). -/
abbrev Word := BitVec 16

/-- A framebuffer pixel: 0 lightest, 3 darkest (R43, R381). -/
abbrev Shade := BitVec 2

end Sys2Proof
end

