-- ==== Sys2Proof/Machine/Bits.lean ====
section
/-! DEFINITION. Byte order, bit slices and sign extension (R10, R21, R66): `v[hi:lo]`, `a ++ b`, `sext_16`. -/

namespace Sys2Proof.Machine

/-- `v[15:8]` (R10). -/
def hiByte (v : Word) : Byte := v.extractLsb' 8 8

/-- `v[7:0]` (R10). -/
def loByte (v : Word) : Byte := v.extractLsb' 0 8

/-- `hi ++ lo`, `hi` in the more significant bits (R10, R21, R64). -/
def joinBytes (hi lo : Byte) : Word := hi ++ lo

/-- `sext_16(imm8)` (R11, R146). -/
def signExtend16 (v : Byte) : Word := v.signExtend 16

/-- `zext_16(v)` (R11). -/
def zeroExtend16 (v : Byte) : Word := v.setWidth 16

/-- The high-page address `0xFF ++ n` (R146, R181). -/
def highPage (n : Byte) : Word := joinBytes 0xFF n

/-- `v[i]` (R10). -/
def bitOf (v : Byte) (i : Nat) : Bool := v.getLsbD i

/-- One bit as a byte, for sums taken "as integers" (R10). -/
def bitNat (c : Bool) : Nat := if c then 1 else 0

/-- The low nibble `v[3:0]` as an integer (R10, R232). -/
def nibble (v : Byte) : Nat := v.toNat % 16

end Sys2Proof.Machine
end

