-- ==== Sys2Proof/Config.lean ====
section
/-! DEFINITION. What a machine is built from: the configuration record CFG of R7, its byte strings, and the host's
input (R364). Nothing here is an opaque constant: the spec leaves no value open in this machine once CFG and the inputs are
given (93_implementation_defined.md, end of part 1: "Nothing in this machine is `any value`"). -/

namespace Sys2Proof

/-- A bank-controller variant (R47, R103). -/
inductive Variant where
  | noMbc
  | mbc1
  | mbc3
  | mbc5
deriving DecidableEq, Repr

/-- A byte string handed in by the host: its length, and its bytes that are not 0x00 by offset (an unlisted offset below
`len` holds 0x00). R7's CFG.ROM, CFG.BOOT_ROM and CFG.BATTERY. -/
structure Image where
  len   : Nat
  cells : List Host.Cell
deriving DecidableEq, Repr

/-- The absent byte string ("zero length signals absence", R420). -/
def Image.absent : Image := ⟨0, []⟩

/-- The configuration record of R7. `quantum` and `contention` are the OPEN parameters D4 and D19, `supportedMbc` is D2;
`rom`, `bootRom` and `battery` are the inputs of reset. -/
structure Cfg where
  quantum      : Nat
  contention   : Bool
  supportedMbc : List Variant
  bootRom      : Image
  rom          : Image
  battery      : Image
deriving DecidableEq, Repr

/-- The configuration `State.reset` is built from: the one of the test start state in 95_test_vectors.md section 3 (no boot
ROM, an all-zero ROM of 32768 bytes, quantum 456, contention on), with all four variants supported and no battery image.
DESIGN CHOICE (log entry 1): CFG is an argument of reset, and `State.reset` needs one. -/
def Cfg.default : Cfg where
  quantum      := 456
  contention   := true
  supportedMbc := [.noMbc, .mbc1, .mbc3, .mbc5]
  bootRom      := Image.absent
  rom          := ⟨32768, []⟩
  battery      := Image.absent

/-- The host input of one quantum: eight buttons, true meaning pressed (R364, R400). -/
structure Buttons where
  a      : Bool
  b      : Bool
  start  : Bool
  select : Bool
  up     : Bool
  down   : Bool
  left   : Bool
  right  : Bool
deriving DecidableEq, Repr

/-- No button pressed. -/
def Buttons.released : Buttons := ⟨false, false, false, false, false, false, false, false⟩

end Sys2Proof
end

