-- ==== Sys2Proof/Machine/State.lean ====
section
/-! DEFINITION. The state of the nsgbe CORE (10_state.md): every register, storage array, device register and hidden
counter the spec names, the two reasons a step could stop, and the state right after reset. INVENTORY.md lists each field
with its rule and reset value. -/

namespace Sys2Proof.Machine

/-- Why a step stops with a fault. There is NO constructor, because the spec gives no case in which a step stops: no memory
access faults (R67), the one synchronous exception IllegalOpcode has its effect written out as a next state (R320), and a
dead CPU leaves the machine unchanged (R391). Load failures are results of `reset`, before any step (R421). Log entry 4. -/
inductive Fault where
deriving DecidableEq, Repr

/-- Why an instruction is refused. -/
inductive Refusal where
  /-- Raised only by an arm of `exec` whose instruction has no meaning yet; no arm raises it now. Safe: a refused
  instruction proves nothing false. -/
  | notModelled (mnemonic : String)
deriving DecidableEq, Repr

/-- Sparse storage of `w`-bit cells by index, in one canonical form: indices strictly rising, no cell equal to 0. An
unlisted index reads as 0, the reset contents of every array (R33, R52). -/
abbrev Store (w : Nat) := List (Nat × BitVec w)

/-- A byte array of R33. -/
abbrev Memory := List Host.Cell

/-- The CPU register file (R20, R26, R28). -/
structure Regs where
  a  : Byte
  f  : Byte
  b  : Byte
  c  : Byte
  d  : Byte
  e  : Byte
  h  : Byte
  l  : Byte
  sp : Word
  pc : Word
deriving DecidableEq, Repr

/-- The five clock registers of an MBC3 cartridge (R48, R122). -/
structure Rtc where
  seconds : Byte
  minutes : Byte
  hours   : Byte
  dayLow  : Byte
  dayHigh : Byte
deriving DecidableEq, Repr

/-- The clock registers at reset (R48). -/
def Rtc.zero : Rtc := ⟨0, 0, 0, 0, 0⟩

/-- The cartridge: what the header fixed at load time (R47), the ROM and external RAM arrays (R33, R105, R108), and the
bank-selection state (R48). `rom` lists the non-zero bytes of the image by image offset; an offset at or beyond `romLen`
reads 0xFF (R105). `eram` is indexed by `bank * 0x2000 + offset`. `romBankLo` is as wide as its widest use (8 bits, MBC5) and
`romBankHi` as its (2 bits, MBC1); each variant's write keeps its own narrower width (R112, R118, R124;
log entry 13). -/
structure Cart where
  title          : List Byte
  cartType       : Byte
  romSizeCode    : Byte
  ramSizeCode    : Byte
  headerChecksum : Byte
  globalChecksum : Word
  variant        : Variant
  battery        : Bool
  hasRtc         : Bool
  romBanks       : Nat
  ramBanks       : Nat
  rom            : Memory
  romLen         : Nat
  eram           : Memory
  ramEnable      : Bool
  romBankLo      : BitVec 8
  romBankHi      : BitVec 2
  ramBank        : BitVec 4
  mbc1Mode       : Bool
  rtc            : Rtc
  rtcLatched     : Rtc
  latchPrev      : Byte
deriving DecidableEq, Repr

/-- The serial port (R36): SB, the two stored bits of SC, and the hidden countdown. -/
structure Serial where
  sb       : Byte
  transfer : Bool
  internal : Bool
  count    : Nat
deriving DecidableEq, Repr

/-- The timer (R37): the hidden 16-bit counter whose high byte is DIV, TIMA, TMA, and TAC's three stored bits. -/
structure Timer where
  sysclk : Word
  tima   : Byte
  tma    : Byte
  tac    : BitVec 3
deriving DecidableEq, Repr

/-- The display controller's mode, STAT bits 1-0 (R39). -/
inductive DisplayMode where
  | hblank
  | vblank
  | oamScan
  | transfer
deriving DecidableEq, Repr

/-- The display controller (R38 to R43, R45, R46). `statEnable` is STAT bits 6-3. The framebuffers hold the pixel of row `y`,
column `x` at index `y * 160 + x`. -/
structure Ppu where
  lcdc        : Byte
  statEnable  : BitVec 4
  coincidence : Bool
  mode        : DisplayMode
  scy         : Byte
  scx         : Byte
  ly          : Byte
  lyc         : Byte
  dma         : Byte
  bgp         : Byte
  obp0        : Byte
  obp1        : Byte
  wy          : Byte
  wx          : Byte
  dot         : Nat
  windowLine  : Nat
  fbBack      : Store 2
  fbFront     : Store 2
  frames      : Nat
deriving DecidableEq, Repr

/-- Everything behind the address-space router (R33, R60), with the two things a router access also reads: the parameter
CFG.CONTENTION (R90) and the host input of the current quantum (R81, R364). `boot` is `none` when CFG.BOOT_ROM is absent. -/
structure Bus where
  contention : Bool
  input      : Buttons
  boot       : Option Memory
  bootOff    : Bool
  cart       : Cart
  vram       : Memory
  wram       : Memory
  oam        : Memory
  unused     : Memory
  ioPlain    : Memory
  hram       : Memory
  ie         : Byte
  ifl        : BitVec 5
  selAction  : Bool
  selDir     : Bool
  serial     : Serial
  timer      : Timer
  ppu        : Ppu
  joyPrev    : BitVec 4
deriving DecidableEq, Repr

/-- The whole machine. `quantum` is the parameter CFG.QUANTUM (R390), never changed by a step. `consumed` is the T-cycles
the CPU has used in the current quantum (the local variable of R392; 0 at a quantum boundary), `carry` the overshoot of the
last quantum (R49), `cpuCycles` and `deviceCycles` the scheduler's totals (R353, R53 (i); log entry 14). `inputs` holds the host inputs of
the coming quanta, oldest first (R400; log entry 3). -/
structure State where
  regs         : Regs
  ime          : Bool
  eiPending    : Bool
  halted       : Bool
  cpuAlive     : Bool
  bus          : Bus
  quantum      : Nat
  consumed     : Nat
  carry        : Nat
  cpuCycles    : Nat
  deviceCycles : Nat
  inputs       : List Buttons
deriving DecidableEq, Repr

/-- The cartridge of `Cfg.default`: the header of an all-zero image is cart_type 0x00 (variant NONE), two ROM banks and no
external RAM (R100 to R103); the bank-selection state is the reset column of R48. -/
def Cart.reset : Cart where
  title          := List.replicate 16 0
  cartType       := 0
  romSizeCode    := 0
  ramSizeCode    := 0
  headerChecksum := 0
  globalChecksum := 0
  variant        := .noMbc
  battery        := false
  hasRtc         := false
  romBanks       := 2
  ramBanks       := 0
  rom            := []
  romLen         := 32768
  eram           := []
  ramEnable      := false
  romBankLo      := 1
  romBankHi      := 0
  ramBank        := 0
  mbc1Mode       := false
  rtc            := Rtc.zero
  rtcLatched     := Rtc.zero
  latchPrev      := 0xFF

/-- The CPU registers at reset without a boot ROM (R52, right column). -/
def Regs.reset : Regs :=
  ⟨0x01, 0xB0, 0x00, 0x13, 0x00, 0xD8, 0x01, 0x4D, 0xFFFE, 0x0100⟩

/-- The display controller at reset without a boot ROM (R52, right column; R45, R46). -/
def Ppu.reset : Ppu where
  lcdc        := 0x91
  statEnable  := 0
  coincidence := true
  mode        := .oamScan
  scy         := 0
  scx         := 0
  ly          := 0
  lyc         := 0
  dma         := 0xFF
  bgp         := 0xFC
  obp0        := 0xFF
  obp1        := 0xFF
  wy          := 0
  wx          := 0
  dot         := 0
  windowLine  := 0
  fbBack      := []
  fbFront     := []
  frames      := 0

/-- The bus at reset without a boot ROM (R52, right column): all RAM zero, the overlay off, VBLANK requested. `input`, the host
input of the first quantum, is no state of the block (R51, R400): all buttons released is a DESIGN CHOICE (log entry 3), as
`contention` is (log entry 1). -/
def Bus.reset : Bus where
  contention := true
  input      := Buttons.released
  boot       := none
  bootOff    := true
  cart       := Cart.reset
  vram       := []
  wram       := []
  oam        := []
  unused     := []
  ioPlain    := []
  hram       := []
  ie         := 0x00
  ifl        := 0b00001
  selAction  := false
  selDir     := false
  serial     := ⟨0x00, false, false, 0⟩
  timer      := ⟨0xABCC, 0x00, 0x00, 0⟩
  ppu        := Ppu.reset
  joyPrev    := 0xF

/-- The machine right after `reset(Cfg.default)` (R52, R420, R422): no boot ROM, so the entry point 0x0100. The empty list of coming
inputs is a DESIGN CHOICE (R400; log entry 3), so are the parameters (log entry 1); the cycle counters start at 0 (log
entry 14). -/
def State.reset : State where
  regs         := Regs.reset
  ime          := false
  eiPending    := false
  halted       := false
  cpuAlive     := true
  bus          := Bus.reset
  quantum      := 456
  consumed     := 0
  carry        := 0
  cpuCycles    := 0
  deviceCycles := 0
  inputs       := []

end Sys2Proof.Machine
end

