-- ==== Sys2Proof/Machine/Memory.lean ====
section
/-! DEFINITION. The storage arrays (R33) as sparse stores in one canonical form: indices strictly rising, no cell equal to the
0 an unlisted index reads as. Equal contents are equal lists. -/

namespace Sys2Proof.Machine

/-- The cell at index `k`; 0 where none is listed (R33, R52: every array is zero at reset). -/
def cellGet {w : Nat} : Store w → Nat → BitVec w
  | [], _ => 0#w
  | (k', v) :: m, k => if k = k' then v else cellGet m k

/-- Store `v` at index `k`, keeping the canonical form: writing 0 removes the cell. -/
def cellSet {w : Nat} : Store w → Nat → BitVec w → Store w
  | [], k, v => if v = 0#w then [] else [(k, v)]
  | (k', v') :: m, k, v =>
    if k < k' then (if v = 0#w then (k', v') :: m else (k, v) :: (k', v') :: m)
    else if k = k' then (if v = 0#w then m else (k, v) :: m)
    else (k', v') :: cellSet m k v

/-- Canonical from index `lo` up to but not including `bound`. -/
def cellsFrom {w : Nat} (bound : Nat) : Nat → Store w → Bool
  | _, [] => true
  | lo, (k, v) :: m => decide (lo ≤ k) && decide (k < bound) && decide (v ≠ 0#w) && cellsFrom bound (k + 1) m

/-- The canonical form of an array of `bound` cells. -/
def Store.wf {w : Nat} (bound : Nat) (m : Store w) : Bool := cellsFrom bound 0 m

/-- The canonical form of a byte array of `bound` bytes. -/
abbrev Memory.wf (bound : Nat) (m : Memory) : Bool := Store.wf bound m

end Sys2Proof.Machine
end

