-- ==== Sys2Proof/Machine/Display.lean ====
section
/-! DEFINITION. The interrupt request bits, and the display controller's mode boundaries and LCDC write (R325, R326, R375,
R383). The scanline renderer stands in Machine/Renderer.lean and `ppu_step` in Machine/Devices.lean. -/

namespace Sys2Proof.Machine

/-- The five interrupt sources, in priority order (R325). -/
inductive Interrupt where
  | vblank
  | lcdStat
  | timer
  | serial
  | joypad
deriving DecidableEq, Repr

/-- A source's bit in IF and IE (R34, R325). -/
def Interrupt.bit : Interrupt → Nat
  | .vblank  => 0
  | .lcdStat => 1
  | .timer   => 2
  | .serial  => 3
  | .joypad  => 4

/-- A source's bit as a mask over IF. -/
def Interrupt.mask (i : Interrupt) : BitVec 5 := 1#5 <<< i.bit

/-- `IF[i] <- 1`, when `raised` (R326: an OR, a device never clears a bit). -/
def request (ifl : BitVec 5) (i : Interrupt) (raised : Bool) : BitVec 5 :=
  if raised then ifl ||| i.mask else ifl

/-- STAT bits 1-0 (R39). -/
def DisplayMode.code : DisplayMode → BitVec 2
  | .hblank   => 0
  | .vblank   => 1
  | .oamScan  => 2
  | .transfer => 3

/-- The width of a mode in T-cycles (R371); vertical-blank is counted per scanline. -/
def DisplayMode.width : DisplayMode → Nat
  | .oamScan  => 80
  | .transfer => 172
  | .hblank   => 204
  | .vblank   => 456

/-- Whether entering the mode is enabled to raise LCD_STAT: STAT[3], STAT[4], STAT[5]; mode 3 has no enable bit (R375). -/
def Ppu.entryEnabled (p : Ppu) : DisplayMode → Bool
  | .hblank   => p.statEnable.getLsbD 0
  | .vblank   => p.statEnable.getLsbD 1
  | .oamScan  => p.statEnable.getLsbD 2
  | .transfer => false

/-- STAT[6], the LYC interrupt enable (R39). -/
def Ppu.lycEnabled (p : Ppu) : Bool := p.statEnable.getLsbD 3

/-- `LCDC[7]` (R38). -/
def Ppu.lcdOn (p : Ppu) : Bool := bitOf p.lcdc 7

/-- Whether `boundary(m)` raises LCD_STAT (R375). -/
def Ppu.boundaryRaises (p : Ppu) (m : DisplayMode) : Bool :=
  (decide (m ≠ p.mode) && p.entryEnabled m) ||
  (decide (p.ly = p.lyc) && !p.coincidence && p.lycEnabled)

/-- `boundary(m)` (R375): the mode field, the comparison bit and the LCD_STAT request. -/
def Bus.boundary (m : DisplayMode) (b : Bus) : Bus :=
  { b with
    ppu := { b.ppu with mode := m, coincidence := decide (b.ppu.ly = b.ppu.lyc) }
    ifl := request b.ifl .lcdStat (b.ppu.boundaryRaises m) }

/-- Switching the LCD off: `LY <- 0; dot <- 0; mode <- 0; window_line <- 0` (R383). -/
def Ppu.switchOff (p : Ppu) : Ppu := { p with ly := 0, dot := 0, mode := .hblank, windowLine := 0 }

/-- `lcdc_write(v)` (R383). -/
def Bus.lcdcWrite (v : Byte) (b : Bus) : Bus :=
  let p := { b.ppu with lcdc := v }
  if b.ppu.lcdOn = true ∧ bitOf v 7 = false then { b with ppu := p.switchOff }
  else if b.ppu.lcdOn = false ∧ bitOf v 7 = true then
    { b with ppu := { p with ly := 0, dot := 0, windowLine := 0 } }.boundary .oamScan
  else { b with ppu := p }

/-- `vblank_entry()` (R46, R376): request VBLANK, publish the finished frame by swapping the two framebuffers (D31; log entry 6),
count it. -/
def Bus.vblankEntry (b : Bus) : Bus :=
  { b with
    ppu := { b.ppu with fbFront := b.ppu.fbBack, fbBack := b.ppu.fbFront, frames := b.ppu.frames + 1 }
    ifl := request b.ifl .vblank true }

end Sys2Proof.Machine
end

