-- ==== Sys2Proof/Machine/Renderer.lean ====
section
/-! DEFINITION. The scanline renderer (R378 to R381): background, window and sprites of one scanline, read straight from VRAM
and OAM (never blocked, R91), written into the back framebuffer. -/

namespace Sys2Proof.Machine

/-- `VRAM[o]`, read by the renderer (R378). -/
def Bus.vramByte (b : Bus) (o : Nat) : Byte := cellGet b.vram o

/-- `OAM[o]`, read by the renderer (R380). -/
def Bus.oamByte (b : Bus) (o : Nat) : Byte := cellGet b.oam o

/-- `hi[b] ++ lo[b]`, a 2-bit colour index (R379, R380). -/
def planePixel (hi lo : Byte) (i : Nat) : BitVec 2 := BitVec.ofBool (bitOf hi i) ++ BitVec.ofBool (bitOf lo i)

/-- `P[2i+1:2i]`, the shade of colour index `i` (R43, R378). -/
def paletteShade (palette : Byte) (i : BitVec 2) : Shade := palette.extractLsb' (2 * i.toNat) 2

/-- A background or window tile's offset in VRAM (R379): `t * 16`, or `0x1000 + sext(t) * 16`. -/
def Bus.tileBase (b : Bus) (t : Byte) : Nat :=
  if bitOf b.ppu.lcdc 4 then t.toNat * 16 else (0x1000 + t.toInt * 16).toNat

/-- `tile_pixel(map, px, py)` (R379). -/
def Bus.tilePixel (b : Bus) (map px py : Nat) : BitVec 2 :=
  let t := b.vramByte (map + (py / 8) * 32 + px / 8)
  let row := b.tileBase t + (py % 8) * 2
  planePixel (b.vramByte (row + 1)) (b.vramByte row) (7 - px % 8)

/-- The tile map a map-select bit of LCDC names, as an offset into VRAM (R38, R378). -/
def tileMap (select : Bool) : Nat := if select then 0x1C00 else 0x1800

/-- Whether the window is drawn on scanline `y` (R378). -/
def Bus.windowShown (b : Bus) (y : Nat) : Bool :=
  bitOf b.ppu.lcdc 0 && bitOf b.ppu.lcdc 5 && decide (b.ppu.wy.toNat ≤ y) && decide (b.ppu.wx.toNat ≤ 166)

/-- `idx[x]` of scanline `y`: the window's pixel where it covers, else the background's, else 0 (R378). -/
def Bus.layerIndex (b : Bus) (y x : Nat) : BitVec 2 :=
  if b.windowShown y = true ∧ b.ppu.wx.toNat ≤ x + 7 then
    b.tilePixel (tileMap (bitOf b.ppu.lcdc 6)) (x + 7 - b.ppu.wx.toNat) b.ppu.windowLine
  else if bitOf b.ppu.lcdc 0 then
    b.tilePixel (tileMap (bitOf b.ppu.lcdc 3)) ((b.ppu.scx.toNat + x) % 256) ((b.ppu.scy.toNat + y) % 256)
  else 0

/-- The sprite height selected by `LCDC[2]` (R38, R380). -/
def Bus.spriteHeight (b : Bus) : Nat := if bitOf b.ppu.lcdc 2 then 16 else 8

/-- The sprites of scanline `y`: the first ten, in OAM order, whose rows cover it (R380). -/
def Bus.spritesOn (b : Bus) (y : Nat) : List Nat :=
  ((List.range 40).filter fun i =>
    decide ((b.oamByte (4 * i)).toNat ≤ y + 16) && decide (y + 16 < (b.oamByte (4 * i)).toNat + b.spriteHeight)).take 10

/-- A sprite's pixel at one column: its X byte, colour index and attributes (R380). -/
structure SpritePixel where
  sx    : Nat
  color : BitVec 2
  attr  : Byte
deriving DecidableEq, Repr

/-- Sprite `i`'s pixel at column `x` of scanline `y`, if it covers the column and is not transparent there (R380). -/
def Bus.spritePixel (b : Bus) (y x i : Nat) : Option SpritePixel :=
  let sx := (b.oamByte (4 * i + 1)).toNat
  if x + 8 < sx ∨ sx + 7 < x + 8 then none
  else
    let col := x + 8 - sx
    let attr := b.oamByte (4 * i + 3)
    let top := y + 16 - (b.oamByte (4 * i)).toNat
    let row := if bitOf attr 6 then b.spriteHeight - 1 - top else top
    let tile := if b.spriteHeight = 16 then b.oamByte (4 * i + 2) &&& 0xFE else b.oamByte (4 * i + 2)
    let at0 := tile.toNat * 16 + row * 2
    let c := planePixel (b.vramByte (at0 + 1)) (b.vramByte at0) (if bitOf attr 5 then col else 7 - col)
    if c = 0 then none else some ⟨sx, c, attr⟩

/-- Which of two opaque sprite pixels wins: the smaller X, the earlier one on a tie (R380). -/
def betterSprite (best : Option SpritePixel) (new : Option SpritePixel) : Option SpritePixel :=
  match best, new with
  | none, n => n
  | some p, none => some p
  | some p, some n => if n.sx < p.sx then some n else some p

/-- The winning sprite pixel at column `x` of scanline `y` (R380). -/
def Bus.bestSprite (b : Bus) (y x : Nat) : Option SpritePixel :=
  (b.spritesOn y).foldl (fun best i => betterSprite best (b.spritePixel y x i)) none

/-- The shade of the background and window at column `x` (R378). -/
def Bus.layerShade (b : Bus) (y x : Nat) : Shade :=
  if bitOf b.ppu.lcdc 0 then paletteShade b.ppu.bgp (b.layerIndex y x) else 0

/-- `shade[x]` of scanline `y` after `sprites(y)` (R378, R380). -/
def Bus.pixelShade (b : Bus) (y x : Nat) : Shade :=
  match (if bitOf b.ppu.lcdc 1 then b.bestSprite y x else none) with
  | none => b.layerShade y x
  | some p =>
    if bitOf p.attr 7 = true ∧ b.layerIndex y x ≠ 0 then b.layerShade y x
    else paletteShade (if bitOf p.attr 4 then b.ppu.obp1 else b.ppu.obp0) p.color

/-- The back framebuffer with the pixels of scanline `y` written from column 0 on (R378). -/
def Bus.paintRow (b : Bus) (y : Nat) : Store 2 :=
  (List.range 160).foldl (fun fb x => cellSet fb (y * 160 + x) (b.pixelShade y x)) b.ppu.fbBack

/-- `render_line(y)`: writes `fb_back[y]` and `window_line`, nothing else (R378). -/
def Bus.renderLine (y : Nat) (b : Bus) : Bus :=
  { b with
    ppu := { b.ppu with
      fbBack     := b.paintRow y
      windowLine := if b.windowShown y then b.ppu.windowLine + 1 else b.ppu.windowLine } }

end Sys2Proof.Machine
end

