-- ==== Sys2Proof/Machine/Cart.lean ====
section
/-! DEFINITION. The cartridge and its bank controllers (R105, R110 to R130): `cart_read` and `cart_write`. An address below
0x8000 reaches the ROM side; the external-RAM side takes the offset from 0xA000. -/

namespace Sys2Proof.Machine

/-- `ROM[bank][offset]`: the image byte, or 0xFF beyond the image (R105). -/
def Cart.romByte (c : Cart) (bank offset : Nat) : Byte :=
  let i := bank * 0x4000 + offset
  if i < c.romLen then cellGet c.rom i else 0xFF

/-- `rom_mask` (section 10 of 20_memory.md, R128). -/
def Cart.romMask (c : Cart) (i : Nat) : Nat := i &&& (c.romBanks - 1)

/-- `ram_mask`, used only when `ram_bank_count >= 1` (R128). -/
def Cart.ramMask (c : Cart) (i : Nat) : Nat := i &&& (c.ramBanks - 1)

/-- The effective bank of the fixed region 0x0000-0x3FFF (R110, R113, R119, R125). -/
def Cart.lowBank (c : Cart) : Nat :=
  match c.variant with
  | .noMbc => 0
  | .mbc1  => if c.mbc1Mode then c.romMask (c.romBankHi.toNat * 32) else 0
  | .mbc3  => 0
  | .mbc5  => 0

/-- The effective bank of the switchable region 0x4000-0x7FFF (R110, R113, R119, R125). -/
def Cart.highBank (c : Cart) : Nat :=
  match c.variant with
  | .noMbc => 1
  | .mbc1  => c.romMask (c.romBankHi.toNat * 32 ||| c.romBankLo.toNat)
  | .mbc3  => c.romMask c.romBankLo.toNat
  | .mbc5  => c.romMask (c.romBankHi.toNat * 256 ||| c.romBankLo.toNat)

/-- `cart_read(a)` for `a` in 0x0000-0x7FFF. -/
def Cart.readRom (c : Cart) (a : Nat) : Byte :=
  if a ≤ 0x3FFF then c.romByte c.lowBank a else c.romByte c.highBank (a - 0x4000)

/-- What the external-RAM region 0xA000-0xBFFF reaches: nothing (a read gives 0xFF, a write is dropped), a RAM bank, or a
clock register (R110, R120, R130). -/
inductive RamTarget where
  | absent
  | bank (n : Nat)
  | clock (i : Nat)
deriving DecidableEq, Repr

/-- R130's gate: nothing while external RAM is disabled or absent, else the effective bank. -/
def Cart.gatedBank (c : Cart) (n : Nat) : RamTarget :=
  if c.ramEnable = false ∨ c.ramBanks = 0 then .absent else .bank n

/-- The target of an external-RAM access, by variant (R110, R112, R113, R120, R124, R125). -/
def Cart.ramTarget (c : Cart) : RamTarget :=
  match c.variant with
  | .noMbc => if 1 ≤ c.ramBanks then .bank 0 else .absent
  | .mbc1  => c.gatedBank (if c.mbc1Mode then c.ramMask c.romBankHi.toNat else 0)
  | .mbc3  =>
    if c.ramEnable = false then .absent
    else if c.ramBank.toNat ≤ 7 then c.gatedBank (c.ramMask c.ramBank.toNat)
    else if c.hasRtc = true ∧ c.ramBank.toNat ≤ 0xC then .clock (c.ramBank.toNat - 8)
    else .absent
  | .mbc5  => c.gatedBank (c.ramMask c.ramBank.toNat)

/-- Clock register `i` of 0..4 (R122). -/
def Rtc.get (r : Rtc) : Nat → Byte
  | 0 => r.seconds
  | 1 => r.minutes
  | 2 => r.hours
  | 3 => r.dayLow
  | _ => r.dayHigh

/-- `rtc[i] <- v & rtc_wmask[i]` (R120, R122). -/
def Rtc.set (r : Rtc) (i : Nat) (v : Byte) : Rtc :=
  match i with
  | 0 => { r with seconds := v &&& 0x3F }
  | 1 => { r with minutes := v &&& 0x3F }
  | 2 => { r with hours := v &&& 0x1F }
  | 3 => { r with dayLow := v &&& 0xFF }
  | _ => { r with dayHigh := v &&& 0xC1 }

/-- `cart_read` at offset `o` of 0xA000-0xBFFF; a clock register ignores the offset and reads its latched copy (R120, R130). -/
def Cart.readRam (c : Cart) (o : Nat) : Byte :=
  match c.ramTarget with
  | .absent  => 0xFF
  | .bank n  => cellGet c.eram (n * 0x2000 + o)
  | .clock i => c.rtcLatched.get i

/-- `cart_write` at offset `o` of 0xA000-0xBFFF (R110, R120, R130). -/
def Cart.writeRam (c : Cart) (o : Nat) (v : Byte) : Cart :=
  match c.ramTarget with
  | .absent  => c
  | .bank n  => { c with eram := cellSet c.eram (n * 0x2000 + o) v }
  | .clock i => { c with rtc := c.rtc.set i v }

/-- `ram_enable <- (v[3:0] = 0xA)` (R112, R118, R124). -/
def Cart.setRamEnable (c : Cart) (v : Byte) : Cart := { c with ramEnable := decide (nibble v = 0xA) }

/-- `if field = 0 then 1` (R112, R118). -/
def oneIfZero (v : Byte) : Byte := if v = 0 then 1 else v

/-- `cart_write` into 0x0000-0x7FFF for MBC1 (R112). -/
def Cart.writeMbc1 (c : Cart) (a : Nat) (v : Byte) : Cart :=
  if a ≤ 0x1FFF then c.setRamEnable v
  else if a ≤ 0x3FFF then { c with romBankLo := oneIfZero (v &&& 0x1F) }
  else if a ≤ 0x5FFF then { c with romBankHi := v.setWidth 2 }
  else { c with mbc1Mode := bitOf v 0 }

/-- The clock latch of MBC3: a write of `v` to 0x6000-0x7FFF (R121). -/
def Cart.latchClock (c : Cart) (v : Byte) : Cart :=
  if c.hasRtc then
    { c with
      rtcLatched := if c.latchPrev = 0x00 ∧ v = 0x01 then c.rtc else c.rtcLatched
      latchPrev  := v }
  else c

/-- `cart_write` into 0x0000-0x7FFF for MBC3 (R118). -/
def Cart.writeMbc3 (c : Cart) (a : Nat) (v : Byte) : Cart :=
  if a ≤ 0x1FFF then c.setRamEnable v
  else if a ≤ 0x3FFF then { c with romBankLo := oneIfZero (v &&& 0x7F) }
  else if a ≤ 0x5FFF then { c with ramBank := v.setWidth 4 }
  else c.latchClock v

/-- `cart_write` into 0x0000-0x7FFF for MBC5 (R124). -/
def Cart.writeMbc5 (c : Cart) (a : Nat) (v : Byte) : Cart :=
  if a ≤ 0x1FFF then c.setRamEnable v
  else if a ≤ 0x2FFF then { c with romBankLo := v }
  else if a ≤ 0x3FFF then { c with romBankHi := (v &&& 0x01).setWidth 2 }
  else if a ≤ 0x5FFF then { c with ramBank := v.setWidth 4 }
  else c

/-- `cart_write(a, v)` for `a` in 0x0000-0x7FFF: bank-controller registers, never ROM bytes (R63, R110, R112, R118, R124). -/
def Cart.writeRom (c : Cart) (a : Nat) (v : Byte) : Cart :=
  match c.variant with
  | .noMbc => c
  | .mbc1  => c.writeMbc1 a v
  | .mbc3  => c.writeMbc3 a v
  | .mbc5  => c.writeMbc5 a v

end Sys2Proof.Machine
end

