-- ==== Sys2Proof/Machine/Router.lean ====
section
/-! DEFINITION. The address-space router (R60 to R96): the region of an address, the I/O registers, `MemRead(a,1)` and
`MemWrite(a,1,v)`, blocking by display mode, and the sprite-table copy. -/

namespace Sys2Proof.Machine

/-- The region an address falls in, with its offset there (R60; first matching line of R62). -/
inductive Region where
  | rom (a : Nat)
  | vram (o : Nat)
  | eram (o : Nat)
  | wram (o : Nat)
  | oam (o : Nat)
  | unused (o : Nat)
  | io (o : Nat)
  | hram (o : Nat)
  | ie
deriving DecidableEq, Repr

/-- The address map of R60. The mirror 0xE000-0xFDFF is a second window on WRAM (R61). -/
def regionOf (addr : Word) : Region :=
  let a := addr.toNat
  if a ≤ 0x7FFF then .rom a
  else if a ≤ 0x9FFF then .vram (a - 0x8000)
  else if a ≤ 0xBFFF then .eram (a - 0xA000)
  else if a ≤ 0xDFFF then .wram (a - 0xC000)
  else if a ≤ 0xFDFF then .wram (a - 0xE000)
  else if a ≤ 0xFE9F then .oam (a - 0xFE00)
  else if a ≤ 0xFEFF then .unused (a - 0xFEA0)
  else if a ≤ 0xFF7F then .io (a - 0xFF00)
  else if a ≤ 0xFFFE then .hram (a - 0xFF80)
  else .ie

/-- The registers of the I/O window with a handler, and the plain bytes (R80, R83). -/
inductive IoReg where
  | p1 | sb | sc | div | tima | tma | tac | ifl
  | lcdc | stat | scy | scx | ly | lyc | dma | bgp | obp0 | obp1 | wy | wx | bootOff
  | plain (o : Nat)
deriving DecidableEq, Repr

/-- The assignment of addresses 0xFF00 + `o` (R80). -/
def ioRegOf (o : Nat) : IoReg :=
  match o with
  | 0x00 => .p1
  | 0x01 => .sb
  | 0x02 => .sc
  | 0x04 => .div
  | 0x05 => .tima
  | 0x06 => .tma
  | 0x07 => .tac
  | 0x0F => .ifl
  | 0x40 => .lcdc
  | 0x41 => .stat
  | 0x42 => .scy
  | 0x43 => .scx
  | 0x44 => .ly
  | 0x45 => .lyc
  | 0x46 => .dma
  | 0x47 => .bgp
  | 0x48 => .obp0
  | 0x49 => .obp1
  | 0x4A => .wy
  | 0x4B => .wx
  | 0x50 => .bootOff
  | o    => .plain o

/-- `joy_low(input)`: a line reads 0 when a button of a selected group on it is pressed (R364). -/
def Bus.joyLow (b : Bus) : BitVec 4 :=
  let i := b.input
  let dirs  := if b.selDir then 0#4
    else BitVec.ofBool i.down ++ BitVec.ofBool i.up ++ BitVec.ofBool i.left ++ BitVec.ofBool i.right
  let acts  := if b.selAction then 0#4
    else BitVec.ofBool i.start ++ BitVec.ofBool i.select ++ BitVec.ofBool i.b ++ BitVec.ofBool i.a
  ~~~(dirs ||| acts)

/-- `io_read` of one register (R81). -/
def Bus.ioRead (b : Bus) : IoReg → Byte
  | .p1      => 0b11#2 ++ BitVec.ofBool b.selAction ++ BitVec.ofBool b.selDir ++ b.joyLow
  | .sb      => b.serial.sb
  | .sc      => BitVec.ofBool b.serial.transfer ++ 0b111111#6 ++ BitVec.ofBool b.serial.internal
  | .div     => hiByte b.timer.sysclk
  | .tima    => b.timer.tima
  | .tma     => b.timer.tma
  | .tac     => 0b11111#5 ++ b.timer.tac
  | .ifl     => 0b111#3 ++ b.ifl
  | .lcdc    => b.ppu.lcdc
  | .stat    => 0b1#1 ++ b.ppu.statEnable ++ BitVec.ofBool b.ppu.coincidence ++ b.ppu.mode.code
  | .scy     => b.ppu.scy
  | .scx     => b.ppu.scx
  | .ly      => b.ppu.ly
  | .lyc     => b.ppu.lyc
  | .dma     => b.ppu.dma
  | .bgp     => b.ppu.bgp
  | .obp0    => b.ppu.obp0
  | .obp1    => b.ppu.obp1
  | .wy      => b.ppu.wy
  | .wx      => b.ppu.wx
  | .bootOff => 0b1111111#7 ++ BitVec.ofBool b.bootOff
  | .plain o => cellGet b.ioPlain o

/-- `vram_blocked()` (R90). -/
def Bus.vramBlocked (b : Bus) : Bool :=
  b.contention && b.ppu.lcdOn && decide (b.ppu.mode = .transfer)

/-- `oam_blocked()` (R90). -/
def Bus.oamBlocked (b : Bus) : Bool :=
  b.contention && b.ppu.lcdOn && (decide (b.ppu.mode = .oamScan) || decide (b.ppu.mode = .transfer))

/-- The boot-ROM overlay, while it is enabled (R86). -/
def Bus.overlay (b : Bus) : Option Memory := if b.bootOff then none else b.boot

/-- `MemRead` of an address of a region (R62). -/
def Bus.readRegion (b : Bus) : Region → Byte
  | .rom a    =>
    match b.overlay with
    | some boot => if a ≤ 0x00FF then cellGet boot a else b.cart.readRom a
    | none      => b.cart.readRom a
  | .vram o   => if b.vramBlocked then 0xFF else cellGet b.vram o
  | .eram o   => b.cart.readRam o
  | .wram o   => cellGet b.wram o
  | .oam o    => if b.oamBlocked then 0xFF else cellGet b.oam o
  | .unused o => cellGet b.unused o
  | .io o     => b.ioRead (ioRegOf o)
  | .hram o   => cellGet b.hram o
  | .ie       => b.ie

/-- `MemRead(a, 1)` (R62). It returns a byte and no bus: a read changes no state (R69). -/
def Bus.read (b : Bus) (a : Word) : Byte := b.readRegion (regionOf a)

/-- One byte of the sprite-table copy: `OAM[i] <- MemRead((v ++ 0x00) + i, 1)` (R96). -/
def Bus.dmaByte (v : Byte) (b : Bus) (i : Nat) : Bus :=
  { b with oam := cellSet b.oam i (b.read (joinBytes v 0x00 + BitVec.ofNat 16 i)) }

/-- `oam_dma(v)`: the 160 bytes in order, written straight into OAM (R96). -/
def Bus.oamDma (v : Byte) (b : Bus) : Bus := (List.range 160).foldl (Bus.dmaByte v) b

/-- `io_write` of one register (R82, R360). -/
def Bus.ioWrite (b : Bus) (v : Byte) : IoReg → Bus
  | .p1      => { b with selAction := bitOf v 5, selDir := bitOf v 4 }
  | .sb      => { b with serial := { b.serial with sb := v } }
  | .sc      =>
    { b with serial :=
      { b.serial with
        transfer := bitOf v 7
        internal := bitOf v 0
        count    := if bitOf v 7 = true ∧ bitOf v 0 = true then 4096 else b.serial.count } }
  | .div     => { b with timer := { b.timer with sysclk := 0x0000 } }
  | .tima    => { b with timer := { b.timer with tima := v } }
  | .tma     => { b with timer := { b.timer with tma := v } }
  | .tac     => { b with timer := { b.timer with tac := v.setWidth 3 } }
  | .ifl     => { b with ifl := v.setWidth 5 }
  | .lcdc    => b.lcdcWrite v
  | .stat    => { b with ppu := { b.ppu with statEnable := v.extractLsb' 3 4 } }
  | .scy     => { b with ppu := { b.ppu with scy := v } }
  | .scx     => { b with ppu := { b.ppu with scx := v } }
  | .ly      => b
  | .lyc     => { b with ppu := { b.ppu with lyc := v } }
  | .dma     => { b with ppu := { b.ppu with dma := v } }.oamDma v
  | .bgp     => { b with ppu := { b.ppu with bgp := v } }
  | .obp0    => { b with ppu := { b.ppu with obp0 := v } }
  | .obp1    => { b with ppu := { b.ppu with obp1 := v } }
  | .wy      => { b with ppu := { b.ppu with wy := v } }
  | .wx      => { b with ppu := { b.ppu with wx := v } }
  | .bootOff => { b with bootOff := b.bootOff || bitOf v 0 }
  | .plain o => { b with ioPlain := cellSet b.ioPlain o v }

/-- `MemWrite` at an address of a region (R63): a blocked write is dropped, and the overlay does not intercept writes. -/
def Bus.writeRegion (b : Bus) (v : Byte) : Region → Bus
  | .rom a    => { b with cart := b.cart.writeRom a v }
  | .vram o   => if b.vramBlocked then b else { b with vram := cellSet b.vram o v }
  | .eram o   => { b with cart := b.cart.writeRam o v }
  | .wram o   => { b with wram := cellSet b.wram o v }
  | .oam o    => if b.oamBlocked then b else { b with oam := cellSet b.oam o v }
  | .unused o => { b with unused := cellSet b.unused o v }
  | .io o     => b.ioWrite v (ioRegOf o)
  | .hram o   => { b with hram := cellSet b.hram o v }
  | .ie       => { b with ie := v }

/-- `MemWrite(a, 1, v)` (R63). -/
def Bus.write (b : Bus) (a : Word) (v : Byte) : Bus := b.writeRegion v (regionOf a)

end Sys2Proof.Machine
end

