-- ==== Sys2Proof/Machine/Devices.lean ====
section
/-! DEFINITION. The device steps (R350 to R376): timer, serial port, joypad, `io_step`, and the display controller's
`ppu_step`. Each takes the T-cycles the CPU consumed in the quantum. -/

namespace Sys2Proof.Machine

/-- TIMA's period in T-cycles by `TAC[1:0]` (R350). -/
def timerPeriod (select : BitVec 2) : Nat :=
  match select.toNat with
  | 0 => 1024
  | 1 => 16
  | 2 => 64
  | _ => 256

/-- `tima_inc()` (R351). -/
def Bus.timaInc (b : Bus) : Bus :=
  if b.timer.tima = 0xFF then
    { b with timer := { b.timer with tima := b.timer.tma }, ifl := request b.ifl .timer true }
  else { b with timer := { b.timer with tima := b.timer.tima + 1 } }

/-- One T-cycle of the timer (R350). -/
def Bus.timerTick (b : Bus) : Bus :=
  let b' := { b with timer := { b.timer with sysclk := b.timer.sysclk + 1 } }
  if b'.timer.tac.getLsbD 2 = true ∧ b'.timer.sysclk.toNat % timerPeriod (b'.timer.tac.setWidth 2) = 0 then b'.timaInc
  else b'

/-- `timer_step(c)`: `c` repetitions of one T-cycle (R350). -/
def Bus.timerStep : Nat → Bus → Bus
  | 0, b => b
  | c + 1, b => Bus.timerStep c b.timerTick

/-- `serial_step(c)` (R360). -/
def Bus.serialStep (c : Nat) (b : Bus) : Bus :=
  if b.serial.transfer = true ∧ b.serial.internal = true then
    if b.serial.count > c then { b with serial := { b.serial with count := b.serial.count - c } }
    else
      { b with
        serial := { b.serial with count := 0, sb := 0xFF, transfer := false }
        ifl := request b.ifl .serial true }
  else b

/-- `joypad_step(input)`, `input` being the input of the quantum the bus holds (R365). -/
def Bus.joypadStep (b : Bus) : Bus :=
  { b with
    ifl := request b.ifl .joypad (decide (b.joyPrev &&& ~~~b.joyLow ≠ 0))
    joyPrev := b.joyLow }

/-- `io_step(c, input)` (R366). -/
def Bus.ioStep (c : Nat) (b : Bus) : Bus := ((b.timerStep c).serialStep c).joypadStep

/-- One crossing of a mode boundary, for a display whose `dot` has reached its mode's width (R372). -/
def Bus.crossMode (b : Bus) : Bus :=
  let b' := { b with ppu := { b.ppu with dot := b.ppu.dot - b.ppu.mode.width } }
  let next := { b' with ppu := { b'.ppu with ly := b'.ppu.ly + 1 } }
  match b.ppu.mode with
  | .oamScan  => b'.boundary .transfer
  | .transfer => (b'.renderLine b'.ppu.ly.toNat).boundary .hblank
  | .hblank   => if next.ppu.ly = 144#8 then next.vblankEntry.boundary .vblank else next.boundary .oamScan
  | .vblank   =>
    if next.ppu.ly = 154#8 then { next with ppu := { next.ppu with ly := 0, windowLine := 0 } }.boundary .oamScan
    else next.boundary .vblank

/-- The loop of `ppu_step`: cross boundaries while `dot` has reached the width of the current mode. Each crossing takes at
least 80 off `dot`, so fuel `dot / 80 + 1` never runs out early (R371, R372; log entry 15). -/
def Bus.crossModes : Nat → Bus → Bus
  | 0, b => b
  | fuel + 1, b => if b.ppu.dot < b.ppu.mode.width then b else Bus.crossModes fuel b.crossMode

/-- `ppu_step(c)` (R372). -/
def Bus.ppuStep (c : Nat) (b : Bus) : Bus :=
  if b.ppu.lcdOn then
    let b' := { b with ppu := { b.ppu with dot := b.ppu.dot + c } }
    Bus.crossModes (b'.ppu.dot / 80 + 1) b'
  else b

end Sys2Proof.Machine
end

