-- ==== Sys2Proof/Syntax.lean ====
section
/-! DEFINITION. The instruction set as syntax (R148 to R150): the operand tables, one constructor per row of
opcode_table.json, and names for the families of constructors that differ only in an operand field (R141). -/

namespace Sys2Proof

/-- The 8-bit register codes 0-5 and 7 (R144); code 6, the byte at HL, has constructors of its own. -/
inductive Reg8 where
  | b | c | d | e | h | l | a
deriving DecidableEq, Repr

/-- The `r16` table (R145). -/
inductive Reg16 where
  | bc | de | hl | sp
deriving DecidableEq, Repr

/-- The `r16s` table of PUSH and POP (R145). -/
inductive StackPair where
  | bc | de | hl | af
deriving DecidableEq, Repr

/-- The conditions (R147). -/
inductive Cond where
  | nz | z | nc | c
deriving DecidableEq, Repr

/-- The eight accumulator operations, in the order of their numbers (R148, R231). -/
inductive AluOp where
  | add | adc | sub | sbc | and | xor | or | cp
deriving DecidableEq, Repr

/-- The eight rotate and shift operations, in the order of their numbers (R149). -/
inductive RotOp where
  | rlc | rrc | rl | rr | sla | sra | swap | srl
deriving DecidableEq, Repr

/-- An 8-bit register's code (R144). -/
def Reg8.code : Reg8 → Nat
  | .b => 0
  | .c => 1
  | .d => 2
  | .e => 3
  | .h => 4
  | .l => 5
  | .a => 7

/-- A 16-bit register's code (R145). -/
def Reg16.code : Reg16 → Nat
  | .bc => 0
  | .de => 1
  | .hl => 2
  | .sp => 3

/-- A PUSH/POP pair's code (R145). -/
def StackPair.code : StackPair → Nat
  | .bc => 0
  | .de => 1
  | .hl => 2
  | .af => 3

/-- A condition's code (R147). -/
def Cond.code : Cond → Nat
  | .nz => 0
  | .z  => 1
  | .nc => 2
  | .c  => 3

/-- An accumulator operation's number (R148, R231). -/
def AluOp.code : AluOp → Nat
  | .add => 0
  | .adc => 1
  | .sub => 2
  | .sbc => 3
  | .and => 4
  | .xor => 5
  | .or  => 6
  | .cp  => 7

/-- A rotate or shift's number (R149). -/
def RotOp.code : RotOp → Nat
  | .rlc  => 0
  | .rrc  => 1
  | .rl   => 2
  | .rr   => 3
  | .sla  => 4
  | .sra  => 5
  | .swap => 6
  | .srl  => 7

/-- The instructions: one constructor per row of opcode_table.json (R148, R149, R150). In a name, `MX` is the byte at the
address X; an argument `n` or `e` is the byte after the opcode, `nn` the 16-bit immediate (R146). STOP keeps its ignored second
byte (R302). The eleven illegal opcodes are rows of the table and so constructors, named by their byte (R150). The
constructors with an operand stand first, because Lean's runtime bounds how many constructors may precede one. -/
inductive Instr where
  -- R200
  | ldBC_nn (nn : Word)
  -- R171
  | ldB_n (n : Byte)
  -- R201
  | ldMnn_SP (nn : Word)
  -- R171
  | ldC_n (n : Byte)
  -- R302
  | stop (n : Byte)
  -- R200
  | ldDE_nn (nn : Word)
  -- R171
  | ldD_n (n : Byte)
  -- R283
  | jr_e (e : Byte)
  -- R171
  | ldE_n (n : Byte)
  -- R284
  | jrNZ_e (e : Byte)
  -- R200
  | ldHL_nn (nn : Word)
  -- R171
  | ldH_n (n : Byte)
  -- R284
  | jrZ_e (e : Byte)
  -- R171
  | ldL_n (n : Byte)
  -- R284
  | jrNC_e (e : Byte)
  -- R200
  | ldSP_nn (nn : Word)
  -- R174
  | ldMHL_n (n : Byte)
  -- R284
  | jrC_e (e : Byte)
  -- R171
  | ldA_n (n : Byte)
  -- R281
  | jpNZ_nn (nn : Word)
  -- R280
  | jp_nn (nn : Word)
  -- R286
  | callNZ_nn (nn : Word)
  -- R215
  | addA_n (n : Byte)
  -- R281
  | jpZ_nn (nn : Word)
  -- R286
  | callZ_nn (nn : Word)
  -- R285
  | call_nn (nn : Word)
  -- R216
  | adcA_n (n : Byte)
  -- R281
  | jpNC_nn (nn : Word)
  -- R286
  | callNC_nn (nn : Word)
  -- R217
  | subA_n (n : Byte)
  -- R281
  | jpC_nn (nn : Word)
  -- R286
  | callC_nn (nn : Word)
  -- R218
  | sbcA_n (n : Byte)
  -- R182
  | ldhMn_A (n : Byte)
  -- R219
  | andA_n (n : Byte)
  -- R243
  | addSP_e (e : Byte)
  -- R180
  | ldMnn_A (nn : Word)
  -- R220
  | xorA_n (n : Byte)
  -- R181
  | ldhA_Mn (n : Byte)
  -- R221
  | orA_n (n : Byte)
  -- R203
  | ldHL_SPe (e : Byte)
  -- R179
  | ldA_Mnn (nn : Word)
  -- R222
  | cpA_n (n : Byte)
  -- R300
  | nop
  -- R177
  | ldMBC_A
  -- R241
  | incBC
  -- R223
  | incB
  -- R225
  | decB
  -- R250
  | rlca
  -- R240
  | addHL_BC
  -- R175
  | ldA_MBC
  -- R242
  | decBC
  -- R223
  | incC
  -- R225
  | decC
  -- R252
  | rrca
  -- R178
  | ldMDE_A
  -- R241
  | incDE
  -- R223
  | incD
  -- R225
  | decD
  -- R251
  | rla
  -- R240
  | addHL_DE
  -- R176
  | ldA_MDE
  -- R242
  | decDE
  -- R223
  | incE
  -- R225
  | decE
  -- R253
  | rra
  -- R185
  | ldMHLinc_A
  -- R241
  | incHL
  -- R223
  | incH
  -- R225
  | decH
  -- R227
  | daa
  -- R240
  | addHL_HL
  -- R186
  | ldA_MHLinc
  -- R242
  | decHL
  -- R223
  | incL
  -- R225
  | decL
  -- R228
  | cpl
  -- R187
  | ldMHLdec_A
  -- R241
  | incSP
  -- R224
  | incMHL
  -- R226
  | decMHL
  -- R229
  | scf
  -- R240
  | addHL_SP
  -- R188
  | ldA_MHLdec
  -- R242
  | decSP
  -- R223
  | incA
  -- R225
  | decA
  -- R230
  | ccf
  -- R170
  | ldB_B
  | ldB_C
  | ldB_D
  | ldB_E
  | ldB_H
  | ldB_L
  -- R172
  | ldB_MHL
  -- R170
  | ldB_A
  | ldC_B
  | ldC_C
  | ldC_D
  | ldC_E
  | ldC_H
  | ldC_L
  -- R172
  | ldC_MHL
  -- R170
  | ldC_A
  | ldD_B
  | ldD_C
  | ldD_D
  | ldD_E
  | ldD_H
  | ldD_L
  -- R172
  | ldD_MHL
  -- R170
  | ldD_A
  | ldE_B
  | ldE_C
  | ldE_D
  | ldE_E
  | ldE_H
  | ldE_L
  -- R172
  | ldE_MHL
  -- R170
  | ldE_A
  | ldH_B
  | ldH_C
  | ldH_D
  | ldH_E
  | ldH_H
  | ldH_L
  -- R172
  | ldH_MHL
  -- R170
  | ldH_A
  | ldL_B
  | ldL_C
  | ldL_D
  | ldL_E
  | ldL_H
  | ldL_L
  -- R172
  | ldL_MHL
  -- R170
  | ldL_A
  -- R173
  | ldMHL_B
  | ldMHL_C
  | ldMHL_D
  | ldMHL_E
  | ldMHL_H
  | ldMHL_L
  -- R301
  | halt
  -- R173
  | ldMHL_A
  -- R170
  | ldA_B
  | ldA_C
  | ldA_D
  | ldA_E
  | ldA_H
  | ldA_L
  -- R172
  | ldA_MHL
  -- R170
  | ldA_A
  -- R215
  | addA_B
  | addA_C
  | addA_D
  | addA_E
  | addA_H
  | addA_L
  | addA_MHL
  | addA_A
  -- R216
  | adcA_B
  | adcA_C
  | adcA_D
  | adcA_E
  | adcA_H
  | adcA_L
  | adcA_MHL
  | adcA_A
  -- R217
  | subA_B
  | subA_C
  | subA_D
  | subA_E
  | subA_H
  | subA_L
  | subA_MHL
  | subA_A
  -- R218
  | sbcA_B
  | sbcA_C
  | sbcA_D
  | sbcA_E
  | sbcA_H
  | sbcA_L
  | sbcA_MHL
  | sbcA_A
  -- R219
  | andA_B
  | andA_C
  | andA_D
  | andA_E
  | andA_H
  | andA_L
  | andA_MHL
  | andA_A
  -- R220
  | xorA_B
  | xorA_C
  | xorA_D
  | xorA_E
  | xorA_H
  | xorA_L
  | xorA_MHL
  | xorA_A
  -- R221
  | orA_B
  | orA_C
  | orA_D
  | orA_E
  | orA_H
  | orA_L
  | orA_MHL
  | orA_A
  -- R222
  | cpA_B
  | cpA_C
  | cpA_D
  | cpA_E
  | cpA_H
  | cpA_L
  | cpA_MHL
  | cpA_A
  -- R288
  | retNZ
  -- R207
  | popBC
  -- R206
  | pushBC
  -- R290
  | rst00
  -- R288
  | retZ
  -- R287
  | ret
  -- R290
  | rst08
  -- R288
  | retNC
  -- R207
  | popDE
  -- R306
  | illegalD3
  -- R206
  | pushDE
  -- R290
  | rst10
  -- R288
  | retC
  -- R289
  | reti
  -- R306
  | illegalDB
  | illegalDD
  -- R290
  | rst18
  -- R207
  | popHL
  -- R184
  | ldMC_A
  -- R306
  | illegalE3
  | illegalE4
  -- R206
  | pushHL
  -- R290
  | rst20
  -- R282
  | jpHL
  -- R306
  | illegalEB
  | illegalEC
  | illegalED
  -- R290
  | rst28
  -- R207
  | popAF
  -- R183
  | ldA_MC
  -- R303
  | di
  -- R306
  | illegalF4
  -- R206
  | pushAF
  -- R290
  | rst30
  -- R202
  | ldSP_HL
  -- R304
  | ei
  -- R306
  | illegalFC
  | illegalFD
  -- R290
  | rst38
  -- R255
  | rlcB
  | rlcC
  | rlcD
  | rlcE
  | rlcH
  | rlcL
  | rlcMHL
  | rlcA
  -- R256
  | rrcB
  | rrcC
  | rrcD
  | rrcE
  | rrcH
  | rrcL
  | rrcMHL
  | rrcA
  -- R257
  | rl_B
  | rl_C
  | rl_D
  | rl_E
  | rl_H
  | rl_L
  | rl_MHL
  | rl_A
  -- R258
  | rr_B
  | rr_C
  | rr_D
  | rr_E
  | rr_H
  | rr_L
  | rr_MHL
  | rr_A
  -- R259
  | slaB
  | slaC
  | slaD
  | slaE
  | slaH
  | slaL
  | slaMHL
  | slaA
  -- R260
  | sraB
  | sraC
  | sraD
  | sraE
  | sraH
  | sraL
  | sraMHL
  | sraA
  -- R261
  | swapB
  | swapC
  | swapD
  | swapE
  | swapH
  | swapL
  | swapMHL
  | swapA
  -- R262
  | srlB
  | srlC
  | srlD
  | srlE
  | srlH
  | srlL
  | srlMHL
  | srlA
  -- R263
  | bit0_B
  | bit0_C
  | bit0_D
  | bit0_E
  | bit0_H
  | bit0_L
  | bit0_MHL
  | bit0_A
  | bit1_B
  | bit1_C
  | bit1_D
  | bit1_E
  | bit1_H
  | bit1_L
  | bit1_MHL
  | bit1_A
  | bit2_B
  | bit2_C
  | bit2_D
  | bit2_E
  | bit2_H
  | bit2_L
  | bit2_MHL
  | bit2_A
  | bit3_B
  | bit3_C
  | bit3_D
  | bit3_E
  | bit3_H
  | bit3_L
  | bit3_MHL
  | bit3_A
  | bit4_B
  | bit4_C
  | bit4_D
  | bit4_E
  | bit4_H
  | bit4_L
  | bit4_MHL
  | bit4_A
  | bit5_B
  | bit5_C
  | bit5_D
  | bit5_E
  | bit5_H
  | bit5_L
  | bit5_MHL
  | bit5_A
  | bit6_B
  | bit6_C
  | bit6_D
  | bit6_E
  | bit6_H
  | bit6_L
  | bit6_MHL
  | bit6_A
  | bit7_B
  | bit7_C
  | bit7_D
  | bit7_E
  | bit7_H
  | bit7_L
  | bit7_MHL
  | bit7_A
  -- R264
  | res0_B
  | res0_C
  | res0_D
  | res0_E
  | res0_H
  | res0_L
  | res0_MHL
  | res0_A
  | res1_B
  | res1_C
  | res1_D
  | res1_E
  | res1_H
  | res1_L
  | res1_MHL
  | res1_A
  | res2_B
  | res2_C
  | res2_D
  | res2_E
  | res2_H
  | res2_L
  | res2_MHL
  | res2_A
  | res3_B
  | res3_C
  | res3_D
  | res3_E
  | res3_H
  | res3_L
  | res3_MHL
  | res3_A
  | res4_B
  | res4_C
  | res4_D
  | res4_E
  | res4_H
  | res4_L
  | res4_MHL
  | res4_A
  | res5_B
  | res5_C
  | res5_D
  | res5_E
  | res5_H
  | res5_L
  | res5_MHL
  | res5_A
  | res6_B
  | res6_C
  | res6_D
  | res6_E
  | res6_H
  | res6_L
  | res6_MHL
  | res6_A
  | res7_B
  | res7_C
  | res7_D
  | res7_E
  | res7_H
  | res7_L
  | res7_MHL
  | res7_A
  -- R265
  | set0_B
  | set0_C
  | set0_D
  | set0_E
  | set0_H
  | set0_L
  | set0_MHL
  | set0_A
  | set1_B
  | set1_C
  | set1_D
  | set1_E
  | set1_H
  | set1_L
  | set1_MHL
  | set1_A
  | set2_B
  | set2_C
  | set2_D
  | set2_E
  | set2_H
  | set2_L
  | set2_MHL
  | set2_A
  | set3_B
  | set3_C
  | set3_D
  | set3_E
  | set3_H
  | set3_L
  | set3_MHL
  | set3_A
  | set4_B
  | set4_C
  | set4_D
  | set4_E
  | set4_H
  | set4_L
  | set4_MHL
  | set4_A
  | set5_B
  | set5_C
  | set5_D
  | set5_E
  | set5_H
  | set5_L
  | set5_MHL
  | set5_A
  | set6_B
  | set6_C
  | set6_D
  | set6_E
  | set6_H
  | set6_L
  | set6_MHL
  | set6_A
  | set7_B
  | set7_C
  | set7_D
  | set7_E
  | set7_H
  | set7_L
  | set7_MHL
  | set7_A
deriving DecidableEq, Repr

/-- `LD r,r'` by its two fields (R170). -/
def Instr.ldRR : Reg8 → Reg8 → Instr
  | .b, .b => .ldB_B
  | .b, .c => .ldB_C
  | .b, .d => .ldB_D
  | .b, .e => .ldB_E
  | .b, .h => .ldB_H
  | .b, .l => .ldB_L
  | .b, .a => .ldB_A
  | .c, .b => .ldC_B
  | .c, .c => .ldC_C
  | .c, .d => .ldC_D
  | .c, .e => .ldC_E
  | .c, .h => .ldC_H
  | .c, .l => .ldC_L
  | .c, .a => .ldC_A
  | .d, .b => .ldD_B
  | .d, .c => .ldD_C
  | .d, .d => .ldD_D
  | .d, .e => .ldD_E
  | .d, .h => .ldD_H
  | .d, .l => .ldD_L
  | .d, .a => .ldD_A
  | .e, .b => .ldE_B
  | .e, .c => .ldE_C
  | .e, .d => .ldE_D
  | .e, .e => .ldE_E
  | .e, .h => .ldE_H
  | .e, .l => .ldE_L
  | .e, .a => .ldE_A
  | .h, .b => .ldH_B
  | .h, .c => .ldH_C
  | .h, .d => .ldH_D
  | .h, .e => .ldH_E
  | .h, .h => .ldH_H
  | .h, .l => .ldH_L
  | .h, .a => .ldH_A
  | .l, .b => .ldL_B
  | .l, .c => .ldL_C
  | .l, .d => .ldL_D
  | .l, .e => .ldL_E
  | .l, .h => .ldL_H
  | .l, .l => .ldL_L
  | .l, .a => .ldL_A
  | .a, .b => .ldA_B
  | .a, .c => .ldA_C
  | .a, .d => .ldA_D
  | .a, .e => .ldA_E
  | .a, .h => .ldA_H
  | .a, .l => .ldA_L
  | .a, .a => .ldA_A

/-- `LD r,n` (R171). -/
def Instr.ldRI (n : Byte) : Reg8 → Instr
  | .b => .ldB_n n
  | .c => .ldC_n n
  | .d => .ldD_n n
  | .e => .ldE_n n
  | .h => .ldH_n n
  | .l => .ldL_n n
  | .a => .ldA_n n

/-- `LD r,(HL)` (R172). -/
def Instr.ldRM : Reg8 → Instr
  | .b => .ldB_MHL
  | .c => .ldC_MHL
  | .d => .ldD_MHL
  | .e => .ldE_MHL
  | .h => .ldH_MHL
  | .l => .ldL_MHL
  | .a => .ldA_MHL

/-- `LD (HL),r` (R173). -/
def Instr.ldMR : Reg8 → Instr
  | .b => .ldMHL_B
  | .c => .ldMHL_C
  | .d => .ldMHL_D
  | .e => .ldMHL_E
  | .h => .ldMHL_H
  | .l => .ldMHL_L
  | .a => .ldMHL_A

/-- `LD rr,nn` (R200). -/
def Instr.ldPI (nn : Word) : Reg16 → Instr
  | .bc => .ldBC_nn nn
  | .de => .ldDE_nn nn
  | .hl => .ldHL_nn nn
  | .sp => .ldSP_nn nn

/-- `PUSH rr` (R206). -/
def Instr.push : StackPair → Instr
  | .bc => .pushBC
  | .de => .pushDE
  | .hl => .pushHL
  | .af => .pushAF

/-- `POP rr` (R207). -/
def Instr.pop : StackPair → Instr
  | .bc => .popBC
  | .de => .popDE
  | .hl => .popHL
  | .af => .popAF

/-- The eight accumulator operations on a register (R231 (a)). -/
def Instr.aluR : AluOp → Reg8 → Instr
  | .add, .b => .addA_B
  | .add, .c => .addA_C
  | .add, .d => .addA_D
  | .add, .e => .addA_E
  | .add, .h => .addA_H
  | .add, .l => .addA_L
  | .add, .a => .addA_A
  | .adc, .b => .adcA_B
  | .adc, .c => .adcA_C
  | .adc, .d => .adcA_D
  | .adc, .e => .adcA_E
  | .adc, .h => .adcA_H
  | .adc, .l => .adcA_L
  | .adc, .a => .adcA_A
  | .sub, .b => .subA_B
  | .sub, .c => .subA_C
  | .sub, .d => .subA_D
  | .sub, .e => .subA_E
  | .sub, .h => .subA_H
  | .sub, .l => .subA_L
  | .sub, .a => .subA_A
  | .sbc, .b => .sbcA_B
  | .sbc, .c => .sbcA_C
  | .sbc, .d => .sbcA_D
  | .sbc, .e => .sbcA_E
  | .sbc, .h => .sbcA_H
  | .sbc, .l => .sbcA_L
  | .sbc, .a => .sbcA_A
  | .and, .b => .andA_B
  | .and, .c => .andA_C
  | .and, .d => .andA_D
  | .and, .e => .andA_E
  | .and, .h => .andA_H
  | .and, .l => .andA_L
  | .and, .a => .andA_A
  | .xor, .b => .xorA_B
  | .xor, .c => .xorA_C
  | .xor, .d => .xorA_D
  | .xor, .e => .xorA_E
  | .xor, .h => .xorA_H
  | .xor, .l => .xorA_L
  | .xor, .a => .xorA_A
  | .or, .b => .orA_B
  | .or, .c => .orA_C
  | .or, .d => .orA_D
  | .or, .e => .orA_E
  | .or, .h => .orA_H
  | .or, .l => .orA_L
  | .or, .a => .orA_A
  | .cp, .b => .cpA_B
  | .cp, .c => .cpA_C
  | .cp, .d => .cpA_D
  | .cp, .e => .cpA_E
  | .cp, .h => .cpA_H
  | .cp, .l => .cpA_L
  | .cp, .a => .cpA_A

/-- The eight accumulator operations on the byte at HL (R231 (b)). -/
def Instr.aluM : AluOp → Instr
  | .add => .addA_MHL
  | .adc => .adcA_MHL
  | .sub => .subA_MHL
  | .sbc => .sbcA_MHL
  | .and => .andA_MHL
  | .xor => .xorA_MHL
  | .or => .orA_MHL
  | .cp => .cpA_MHL

/-- The eight accumulator operations on an immediate (R231 (c)). -/
def Instr.aluI (n : Byte) : AluOp → Instr
  | .add => .addA_n n
  | .adc => .adcA_n n
  | .sub => .subA_n n
  | .sbc => .sbcA_n n
  | .and => .andA_n n
  | .xor => .xorA_n n
  | .or => .orA_n n
  | .cp => .cpA_n n

/-- `INC r` (R223). -/
def Instr.incR : Reg8 → Instr
  | .b => .incB
  | .c => .incC
  | .d => .incD
  | .e => .incE
  | .h => .incH
  | .l => .incL
  | .a => .incA

/-- `DEC r` (R225). -/
def Instr.decR : Reg8 → Instr
  | .b => .decB
  | .c => .decC
  | .d => .decD
  | .e => .decE
  | .h => .decH
  | .l => .decL
  | .a => .decA

/-- `ADD HL,rr` (R240). -/
def Instr.addHL : Reg16 → Instr
  | .bc => .addHL_BC
  | .de => .addHL_DE
  | .hl => .addHL_HL
  | .sp => .addHL_SP

/-- `INC rr` (R241). -/
def Instr.incP : Reg16 → Instr
  | .bc => .incBC
  | .de => .incDE
  | .hl => .incHL
  | .sp => .incSP

/-- `DEC rr` (R242). -/
def Instr.decP : Reg16 → Instr
  | .bc => .decBC
  | .de => .decDE
  | .hl => .decHL
  | .sp => .decSP

/-- The CB-prefixed rotates, shifts and SWAP on a register (R255 to R262). -/
def Instr.rotR : RotOp → Reg8 → Instr
  | .rlc, .b => .rlcB
  | .rlc, .c => .rlcC
  | .rlc, .d => .rlcD
  | .rlc, .e => .rlcE
  | .rlc, .h => .rlcH
  | .rlc, .l => .rlcL
  | .rlc, .a => .rlcA
  | .rrc, .b => .rrcB
  | .rrc, .c => .rrcC
  | .rrc, .d => .rrcD
  | .rrc, .e => .rrcE
  | .rrc, .h => .rrcH
  | .rrc, .l => .rrcL
  | .rrc, .a => .rrcA
  | .rl, .b => .rl_B
  | .rl, .c => .rl_C
  | .rl, .d => .rl_D
  | .rl, .e => .rl_E
  | .rl, .h => .rl_H
  | .rl, .l => .rl_L
  | .rl, .a => .rl_A
  | .rr, .b => .rr_B
  | .rr, .c => .rr_C
  | .rr, .d => .rr_D
  | .rr, .e => .rr_E
  | .rr, .h => .rr_H
  | .rr, .l => .rr_L
  | .rr, .a => .rr_A
  | .sla, .b => .slaB
  | .sla, .c => .slaC
  | .sla, .d => .slaD
  | .sla, .e => .slaE
  | .sla, .h => .slaH
  | .sla, .l => .slaL
  | .sla, .a => .slaA
  | .sra, .b => .sraB
  | .sra, .c => .sraC
  | .sra, .d => .sraD
  | .sra, .e => .sraE
  | .sra, .h => .sraH
  | .sra, .l => .sraL
  | .sra, .a => .sraA
  | .swap, .b => .swapB
  | .swap, .c => .swapC
  | .swap, .d => .swapD
  | .swap, .e => .swapE
  | .swap, .h => .swapH
  | .swap, .l => .swapL
  | .swap, .a => .swapA
  | .srl, .b => .srlB
  | .srl, .c => .srlC
  | .srl, .d => .srlD
  | .srl, .e => .srlE
  | .srl, .h => .srlH
  | .srl, .l => .srlL
  | .srl, .a => .srlA

/-- The CB-prefixed rotates, shifts and SWAP on the byte at HL (R255 to R262). -/
def Instr.rotM : RotOp → Instr
  | .rlc => .rlcMHL
  | .rrc => .rrcMHL
  | .rl => .rl_MHL
  | .rr => .rr_MHL
  | .sla => .slaMHL
  | .sra => .sraMHL
  | .swap => .swapMHL
  | .srl => .srlMHL

/-- `BIT b,r` (R263). -/
def Instr.bitR : Fin 8 → Reg8 → Instr
  | 0, .b => .bit0_B
  | 0, .c => .bit0_C
  | 0, .d => .bit0_D
  | 0, .e => .bit0_E
  | 0, .h => .bit0_H
  | 0, .l => .bit0_L
  | 0, .a => .bit0_A
  | 1, .b => .bit1_B
  | 1, .c => .bit1_C
  | 1, .d => .bit1_D
  | 1, .e => .bit1_E
  | 1, .h => .bit1_H
  | 1, .l => .bit1_L
  | 1, .a => .bit1_A
  | 2, .b => .bit2_B
  | 2, .c => .bit2_C
  | 2, .d => .bit2_D
  | 2, .e => .bit2_E
  | 2, .h => .bit2_H
  | 2, .l => .bit2_L
  | 2, .a => .bit2_A
  | 3, .b => .bit3_B
  | 3, .c => .bit3_C
  | 3, .d => .bit3_D
  | 3, .e => .bit3_E
  | 3, .h => .bit3_H
  | 3, .l => .bit3_L
  | 3, .a => .bit3_A
  | 4, .b => .bit4_B
  | 4, .c => .bit4_C
  | 4, .d => .bit4_D
  | 4, .e => .bit4_E
  | 4, .h => .bit4_H
  | 4, .l => .bit4_L
  | 4, .a => .bit4_A
  | 5, .b => .bit5_B
  | 5, .c => .bit5_C
  | 5, .d => .bit5_D
  | 5, .e => .bit5_E
  | 5, .h => .bit5_H
  | 5, .l => .bit5_L
  | 5, .a => .bit5_A
  | 6, .b => .bit6_B
  | 6, .c => .bit6_C
  | 6, .d => .bit6_D
  | 6, .e => .bit6_E
  | 6, .h => .bit6_H
  | 6, .l => .bit6_L
  | 6, .a => .bit6_A
  | 7, .b => .bit7_B
  | 7, .c => .bit7_C
  | 7, .d => .bit7_D
  | 7, .e => .bit7_E
  | 7, .h => .bit7_H
  | 7, .l => .bit7_L
  | 7, .a => .bit7_A

/-- `BIT b,(HL)` (R263). -/
def Instr.bitM : Fin 8 → Instr
  | 0 => .bit0_MHL
  | 1 => .bit1_MHL
  | 2 => .bit2_MHL
  | 3 => .bit3_MHL
  | 4 => .bit4_MHL
  | 5 => .bit5_MHL
  | 6 => .bit6_MHL
  | 7 => .bit7_MHL

/-- `RES b,r` (R264). -/
def Instr.resR : Fin 8 → Reg8 → Instr
  | 0, .b => .res0_B
  | 0, .c => .res0_C
  | 0, .d => .res0_D
  | 0, .e => .res0_E
  | 0, .h => .res0_H
  | 0, .l => .res0_L
  | 0, .a => .res0_A
  | 1, .b => .res1_B
  | 1, .c => .res1_C
  | 1, .d => .res1_D
  | 1, .e => .res1_E
  | 1, .h => .res1_H
  | 1, .l => .res1_L
  | 1, .a => .res1_A
  | 2, .b => .res2_B
  | 2, .c => .res2_C
  | 2, .d => .res2_D
  | 2, .e => .res2_E
  | 2, .h => .res2_H
  | 2, .l => .res2_L
  | 2, .a => .res2_A
  | 3, .b => .res3_B
  | 3, .c => .res3_C
  | 3, .d => .res3_D
  | 3, .e => .res3_E
  | 3, .h => .res3_H
  | 3, .l => .res3_L
  | 3, .a => .res3_A
  | 4, .b => .res4_B
  | 4, .c => .res4_C
  | 4, .d => .res4_D
  | 4, .e => .res4_E
  | 4, .h => .res4_H
  | 4, .l => .res4_L
  | 4, .a => .res4_A
  | 5, .b => .res5_B
  | 5, .c => .res5_C
  | 5, .d => .res5_D
  | 5, .e => .res5_E
  | 5, .h => .res5_H
  | 5, .l => .res5_L
  | 5, .a => .res5_A
  | 6, .b => .res6_B
  | 6, .c => .res6_C
  | 6, .d => .res6_D
  | 6, .e => .res6_E
  | 6, .h => .res6_H
  | 6, .l => .res6_L
  | 6, .a => .res6_A
  | 7, .b => .res7_B
  | 7, .c => .res7_C
  | 7, .d => .res7_D
  | 7, .e => .res7_E
  | 7, .h => .res7_H
  | 7, .l => .res7_L
  | 7, .a => .res7_A

/-- `RES b,(HL)` (R264). -/
def Instr.resM : Fin 8 → Instr
  | 0 => .res0_MHL
  | 1 => .res1_MHL
  | 2 => .res2_MHL
  | 3 => .res3_MHL
  | 4 => .res4_MHL
  | 5 => .res5_MHL
  | 6 => .res6_MHL
  | 7 => .res7_MHL

/-- `SET b,r` (R265). -/
def Instr.setR : Fin 8 → Reg8 → Instr
  | 0, .b => .set0_B
  | 0, .c => .set0_C
  | 0, .d => .set0_D
  | 0, .e => .set0_E
  | 0, .h => .set0_H
  | 0, .l => .set0_L
  | 0, .a => .set0_A
  | 1, .b => .set1_B
  | 1, .c => .set1_C
  | 1, .d => .set1_D
  | 1, .e => .set1_E
  | 1, .h => .set1_H
  | 1, .l => .set1_L
  | 1, .a => .set1_A
  | 2, .b => .set2_B
  | 2, .c => .set2_C
  | 2, .d => .set2_D
  | 2, .e => .set2_E
  | 2, .h => .set2_H
  | 2, .l => .set2_L
  | 2, .a => .set2_A
  | 3, .b => .set3_B
  | 3, .c => .set3_C
  | 3, .d => .set3_D
  | 3, .e => .set3_E
  | 3, .h => .set3_H
  | 3, .l => .set3_L
  | 3, .a => .set3_A
  | 4, .b => .set4_B
  | 4, .c => .set4_C
  | 4, .d => .set4_D
  | 4, .e => .set4_E
  | 4, .h => .set4_H
  | 4, .l => .set4_L
  | 4, .a => .set4_A
  | 5, .b => .set5_B
  | 5, .c => .set5_C
  | 5, .d => .set5_D
  | 5, .e => .set5_E
  | 5, .h => .set5_H
  | 5, .l => .set5_L
  | 5, .a => .set5_A
  | 6, .b => .set6_B
  | 6, .c => .set6_C
  | 6, .d => .set6_D
  | 6, .e => .set6_E
  | 6, .h => .set6_H
  | 6, .l => .set6_L
  | 6, .a => .set6_A
  | 7, .b => .set7_B
  | 7, .c => .set7_C
  | 7, .d => .set7_D
  | 7, .e => .set7_E
  | 7, .h => .set7_H
  | 7, .l => .set7_L
  | 7, .a => .set7_A

/-- `SET b,(HL)` (R265). -/
def Instr.setM : Fin 8 → Instr
  | 0 => .set0_MHL
  | 1 => .set1_MHL
  | 2 => .set2_MHL
  | 3 => .set3_MHL
  | 4 => .set4_MHL
  | 5 => .set5_MHL
  | 6 => .set6_MHL
  | 7 => .set7_MHL

/-- `JP cc,nn` (R281). -/
def Instr.jpCC (nn : Word) : Cond → Instr
  | .nz => .jpNZ_nn nn
  | .z => .jpZ_nn nn
  | .nc => .jpNC_nn nn
  | .c => .jpC_nn nn

/-- `JR cc,e` (R284). -/
def Instr.jrCC (e : Byte) : Cond → Instr
  | .nz => .jrNZ_e e
  | .z => .jrZ_e e
  | .nc => .jrNC_e e
  | .c => .jrC_e e

/-- `CALL cc,nn` (R286). -/
def Instr.callCC (nn : Word) : Cond → Instr
  | .nz => .callNZ_nn nn
  | .z => .callZ_nn nn
  | .nc => .callNC_nn nn
  | .c => .callC_nn nn

/-- `RET cc` (R288). -/
def Instr.retCC : Cond → Instr
  | .nz => .retNZ
  | .z => .retZ
  | .nc => .retNC
  | .c => .retC

/-- `RST t`, by `t` (R290). -/
def Instr.rst : Fin 8 → Instr
  | 0 => .rst00
  | 1 => .rst08
  | 2 => .rst10
  | 3 => .rst18
  | 4 => .rst20
  | 5 => .rst28
  | 6 => .rst30
  | 7 => .rst38

/-- The eleven undefined opcodes, in the order of R150. -/
def Instr.illegals : List Instr :=
  [.illegalD3, .illegalDB, .illegalDD, .illegalE3, .illegalE4, .illegalEB, .illegalEC, .illegalED, .illegalF4, .illegalFC, .illegalFD]

end Sys2Proof
end

