-- ==== Sys2Proof/WellFormed.lean ====
section
/-! DEFINITION. What is well formed: every instruction (its operands have exactly the widths the encodings give them), and the
configurations a machine may be built from (R7, R390, R421). -/

namespace Sys2Proof

/-- Every term of `Instr` is an instruction of the spec: an operand field is either fixed by the constructor or a `Byte` or
`Word` at any value the encoding admits (R141, R146, R151), so there is nothing left to check. -/
def Instr.wellFormed (_ : Instr) : Bool := true

/-- A byte string lists its bytes in canonical form: offsets rising, below `len`, no listed 0x00. -/
def imageCellsFrom (len : Nat) : Nat → List Host.Cell → Bool
  | _, [] => true
  | lo, (k, v) :: m => decide (lo ≤ k) && decide (k < len) && decide (v ≠ 0#8) && imageCellsFrom len (k + 1) m

/-- The canonical form of a byte string. -/
def Image.wf (i : Image) : Bool := imageCellsFrom i.len 0 i.cells

/-- CFG.QUANTUM is a positive multiple of 4 T-cycles (R7, R390). -/
def Cfg.quantumOk (c : Cfg) : Bool := decide (0 < c.quantum) && decide (c.quantum % 4 = 0)

/-- CFG.BOOT_ROM has length 0 or 256 (R7, R421). -/
def Cfg.bootOk (c : Cfg) : Bool := decide (c.bootRom.len = 0) || decide (c.bootRom.len = 256)

/-- CFG.ROM has length at least 0x150 (R7, R421). -/
def Cfg.romOk (c : Cfg) : Bool := decide (0x150 ≤ c.rom.len)

/-- A configuration a machine may be built from, as far as R7's own bounds go; the header's demands are `reset`'s (R421). -/
def Cfg.wf (c : Cfg) : Bool :=
  c.quantumOk && c.bootOk && c.romOk && c.rom.wf && c.bootRom.wf && c.battery.wf

end Sys2Proof
end

