-- ==== Sys2Proof/Decode.lean ====
section
/-! DEFINITION. The decoder, total on any bytes (R140 to R152), written as the two opcode maps of R148 and R149; after it the
encoder, written opcode by opcode; last, the reading of a word of opcode_table.json (R153). -/

namespace Sys2Proof

open Sys2Proof.Machine

/-- What an opcode byte means (R140, R143): an instruction without immediate, one with an 8-bit or a 16-bit immediate, or the
prefix 0xCB, which is followed by a second opcode (R305). -/
inductive Entry where
  | op (i : Instr)
  | imm8 (f : Byte → Instr)
  | imm16 (f : Word → Instr)
  | prefixCB

/-- Row 0x of the base opcode map (R148, R150). -/
def baseRow0 : List Entry :=
  [.op .nop, .imm16 .ldBC_nn, .op .ldMBC_A, .op .incBC, .op .incB, .op .decB, .imm8 .ldB_n, .op .rlca, .imm16
   .ldMnn_SP, .op .addHL_BC, .op .ldA_MBC, .op .decBC, .op .incC, .op .decC, .imm8 .ldC_n, .op .rrca]

/-- Row 1x of the base opcode map (R148, R150). -/
def baseRow1 : List Entry :=
  [.imm8 .stop, .imm16 .ldDE_nn, .op .ldMDE_A, .op .incDE, .op .incD, .op .decD, .imm8 .ldD_n, .op .rla, .imm8
   .jr_e, .op .addHL_DE, .op .ldA_MDE, .op .decDE, .op .incE, .op .decE, .imm8 .ldE_n, .op .rra]

/-- Row 2x of the base opcode map (R148, R150). -/
def baseRow2 : List Entry :=
  [.imm8 .jrNZ_e, .imm16 .ldHL_nn, .op .ldMHLinc_A, .op .incHL, .op .incH, .op .decH, .imm8 .ldH_n, .op .daa,
   .imm8 .jrZ_e, .op .addHL_HL, .op .ldA_MHLinc, .op .decHL, .op .incL, .op .decL, .imm8 .ldL_n, .op .cpl]

/-- Row 3x of the base opcode map (R148, R150). -/
def baseRow3 : List Entry :=
  [.imm8 .jrNC_e, .imm16 .ldSP_nn, .op .ldMHLdec_A, .op .incSP, .op .incMHL, .op .decMHL, .imm8 .ldMHL_n, .op
   .scf, .imm8 .jrC_e, .op .addHL_SP, .op .ldA_MHLdec, .op .decSP, .op .incA, .op .decA, .imm8 .ldA_n, .op .ccf]

/-- Row 4x of the base opcode map (R148, R150). -/
def baseRow4 : List Entry :=
  [.op .ldB_B, .op .ldB_C, .op .ldB_D, .op .ldB_E, .op .ldB_H, .op .ldB_L, .op .ldB_MHL, .op .ldB_A, .op .ldC_B,
   .op .ldC_C, .op .ldC_D, .op .ldC_E, .op .ldC_H, .op .ldC_L, .op .ldC_MHL, .op .ldC_A]

/-- Row 5x of the base opcode map (R148, R150). -/
def baseRow5 : List Entry :=
  [.op .ldD_B, .op .ldD_C, .op .ldD_D, .op .ldD_E, .op .ldD_H, .op .ldD_L, .op .ldD_MHL, .op .ldD_A, .op .ldE_B,
   .op .ldE_C, .op .ldE_D, .op .ldE_E, .op .ldE_H, .op .ldE_L, .op .ldE_MHL, .op .ldE_A]

/-- Row 6x of the base opcode map (R148, R150). -/
def baseRow6 : List Entry :=
  [.op .ldH_B, .op .ldH_C, .op .ldH_D, .op .ldH_E, .op .ldH_H, .op .ldH_L, .op .ldH_MHL, .op .ldH_A, .op .ldL_B,
   .op .ldL_C, .op .ldL_D, .op .ldL_E, .op .ldL_H, .op .ldL_L, .op .ldL_MHL, .op .ldL_A]

/-- Row 7x of the base opcode map (R148, R150). -/
def baseRow7 : List Entry :=
  [.op .ldMHL_B, .op .ldMHL_C, .op .ldMHL_D, .op .ldMHL_E, .op .ldMHL_H, .op .ldMHL_L, .op .halt, .op .ldMHL_A,
   .op .ldA_B, .op .ldA_C, .op .ldA_D, .op .ldA_E, .op .ldA_H, .op .ldA_L, .op .ldA_MHL, .op .ldA_A]

/-- Row 8x of the base opcode map (R148, R150). -/
def baseRow8 : List Entry :=
  [.op .addA_B, .op .addA_C, .op .addA_D, .op .addA_E, .op .addA_H, .op .addA_L, .op .addA_MHL, .op .addA_A, .op
   .adcA_B, .op .adcA_C, .op .adcA_D, .op .adcA_E, .op .adcA_H, .op .adcA_L, .op .adcA_MHL, .op .adcA_A]

/-- Row 9x of the base opcode map (R148, R150). -/
def baseRow9 : List Entry :=
  [.op .subA_B, .op .subA_C, .op .subA_D, .op .subA_E, .op .subA_H, .op .subA_L, .op .subA_MHL, .op .subA_A, .op
   .sbcA_B, .op .sbcA_C, .op .sbcA_D, .op .sbcA_E, .op .sbcA_H, .op .sbcA_L, .op .sbcA_MHL, .op .sbcA_A]

/-- Row Ax of the base opcode map (R148, R150). -/
def baseRowA : List Entry :=
  [.op .andA_B, .op .andA_C, .op .andA_D, .op .andA_E, .op .andA_H, .op .andA_L, .op .andA_MHL, .op .andA_A, .op
   .xorA_B, .op .xorA_C, .op .xorA_D, .op .xorA_E, .op .xorA_H, .op .xorA_L, .op .xorA_MHL, .op .xorA_A]

/-- Row Bx of the base opcode map (R148, R150). -/
def baseRowB : List Entry :=
  [.op .orA_B, .op .orA_C, .op .orA_D, .op .orA_E, .op .orA_H, .op .orA_L, .op .orA_MHL, .op .orA_A, .op .cpA_B,
   .op .cpA_C, .op .cpA_D, .op .cpA_E, .op .cpA_H, .op .cpA_L, .op .cpA_MHL, .op .cpA_A]

/-- Row Cx of the base opcode map (R148, R150). -/
def baseRowC : List Entry :=
  [.op .retNZ, .op .popBC, .imm16 .jpNZ_nn, .imm16 .jp_nn, .imm16 .callNZ_nn, .op .pushBC, .imm8 .addA_n, .op
   .rst00, .op .retZ, .op .ret, .imm16 .jpZ_nn, .prefixCB, .imm16 .callZ_nn, .imm16 .call_nn, .imm8 .adcA_n, .op
   .rst08]

/-- Row Dx of the base opcode map (R148, R150). -/
def baseRowD : List Entry :=
  [.op .retNC, .op .popDE, .imm16 .jpNC_nn, .op .illegalD3, .imm16 .callNC_nn, .op .pushDE, .imm8 .subA_n, .op
   .rst10, .op .retC, .op .reti, .imm16 .jpC_nn, .op .illegalDB, .imm16 .callC_nn, .op .illegalDD, .imm8 .sbcA_n,
   .op .rst18]

/-- Row Ex of the base opcode map (R148, R150). -/
def baseRowE : List Entry :=
  [.imm8 .ldhMn_A, .op .popHL, .op .ldMC_A, .op .illegalE3, .op .illegalE4, .op .pushHL, .imm8 .andA_n, .op
   .rst20, .imm8 .addSP_e, .op .jpHL, .imm16 .ldMnn_A, .op .illegalEB, .op .illegalEC, .op .illegalED, .imm8
   .xorA_n, .op .rst28]

/-- Row Fx of the base opcode map (R148, R150). -/
def baseRowF : List Entry :=
  [.imm8 .ldhA_Mn, .op .popAF, .op .ldA_MC, .op .di, .op .illegalF4, .op .pushAF, .imm8 .orA_n, .op .rst30, .imm8
   .ldHL_SPe, .op .ldSP_HL, .imm16 .ldA_Mnn, .op .ei, .op .illegalFC, .op .illegalFD, .imm8 .cpA_n, .op .rst38]

/-- The base opcode map by high nibble (R148). -/
def baseMap : List (List Entry) :=
  [baseRow0, baseRow1, baseRow2, baseRow3, baseRow4, baseRow5, baseRow6, baseRow7,
   baseRow8, baseRow9, baseRowA, baseRowB, baseRowC, baseRowD, baseRowE, baseRowF]

/-- The rotate and shift quarter (R149, f = 0): a row per `b`, a column per `s`. -/
def cbRot : List (List Instr) :=
  [[.rlcB, .rlcC, .rlcD, .rlcE, .rlcH, .rlcL, .rlcMHL, .rlcA],
   [.rrcB, .rrcC, .rrcD, .rrcE, .rrcH, .rrcL, .rrcMHL, .rrcA],
   [.rl_B, .rl_C, .rl_D, .rl_E, .rl_H, .rl_L, .rl_MHL, .rl_A],
   [.rr_B, .rr_C, .rr_D, .rr_E, .rr_H, .rr_L, .rr_MHL, .rr_A],
   [.slaB, .slaC, .slaD, .slaE, .slaH, .slaL, .slaMHL, .slaA],
   [.sraB, .sraC, .sraD, .sraE, .sraH, .sraL, .sraMHL, .sraA],
   [.swapB, .swapC, .swapD, .swapE, .swapH, .swapL, .swapMHL, .swapA],
   [.srlB, .srlC, .srlD, .srlE, .srlH, .srlL, .srlMHL, .srlA]]

/-- The BIT quarter (R149, f = 1): a row per `b`, a column per `s`. -/
def cbBit : List (List Instr) :=
  [[.bit0_B, .bit0_C, .bit0_D, .bit0_E, .bit0_H, .bit0_L, .bit0_MHL, .bit0_A],
   [.bit1_B, .bit1_C, .bit1_D, .bit1_E, .bit1_H, .bit1_L, .bit1_MHL, .bit1_A],
   [.bit2_B, .bit2_C, .bit2_D, .bit2_E, .bit2_H, .bit2_L, .bit2_MHL, .bit2_A],
   [.bit3_B, .bit3_C, .bit3_D, .bit3_E, .bit3_H, .bit3_L, .bit3_MHL, .bit3_A],
   [.bit4_B, .bit4_C, .bit4_D, .bit4_E, .bit4_H, .bit4_L, .bit4_MHL, .bit4_A],
   [.bit5_B, .bit5_C, .bit5_D, .bit5_E, .bit5_H, .bit5_L, .bit5_MHL, .bit5_A],
   [.bit6_B, .bit6_C, .bit6_D, .bit6_E, .bit6_H, .bit6_L, .bit6_MHL, .bit6_A],
   [.bit7_B, .bit7_C, .bit7_D, .bit7_E, .bit7_H, .bit7_L, .bit7_MHL, .bit7_A]]

/-- The RES quarter (R149, f = 2): a row per `b`, a column per `s`. -/
def cbRes : List (List Instr) :=
  [[.res0_B, .res0_C, .res0_D, .res0_E, .res0_H, .res0_L, .res0_MHL, .res0_A],
   [.res1_B, .res1_C, .res1_D, .res1_E, .res1_H, .res1_L, .res1_MHL, .res1_A],
   [.res2_B, .res2_C, .res2_D, .res2_E, .res2_H, .res2_L, .res2_MHL, .res2_A],
   [.res3_B, .res3_C, .res3_D, .res3_E, .res3_H, .res3_L, .res3_MHL, .res3_A],
   [.res4_B, .res4_C, .res4_D, .res4_E, .res4_H, .res4_L, .res4_MHL, .res4_A],
   [.res5_B, .res5_C, .res5_D, .res5_E, .res5_H, .res5_L, .res5_MHL, .res5_A],
   [.res6_B, .res6_C, .res6_D, .res6_E, .res6_H, .res6_L, .res6_MHL, .res6_A],
   [.res7_B, .res7_C, .res7_D, .res7_E, .res7_H, .res7_L, .res7_MHL, .res7_A]]

/-- The SET quarter (R149, f = 3): a row per `b`, a column per `s`. -/
def cbSet : List (List Instr) :=
  [[.set0_B, .set0_C, .set0_D, .set0_E, .set0_H, .set0_L, .set0_MHL, .set0_A],
   [.set1_B, .set1_C, .set1_D, .set1_E, .set1_H, .set1_L, .set1_MHL, .set1_A],
   [.set2_B, .set2_C, .set2_D, .set2_E, .set2_H, .set2_L, .set2_MHL, .set2_A],
   [.set3_B, .set3_C, .set3_D, .set3_E, .set3_H, .set3_L, .set3_MHL, .set3_A],
   [.set4_B, .set4_C, .set4_D, .set4_E, .set4_H, .set4_L, .set4_MHL, .set4_A],
   [.set5_B, .set5_C, .set5_D, .set5_E, .set5_H, .set5_L, .set5_MHL, .set5_A],
   [.set6_B, .set6_C, .set6_D, .set6_E, .set6_H, .set6_L, .set6_MHL, .set6_A],
   [.set7_B, .set7_C, .set7_D, .set7_E, .set7_H, .set7_L, .set7_MHL, .set7_A]]

/-- The 0xCB map by the second byte's bits 7-3 (R149). -/
def cbMap : List (List Instr) := cbRot ++ cbBit ++ cbRes ++ cbSet

/-- The base map at an opcode byte (R148). Both lookups are inside the map for every byte. -/
def opcodeEntry (op : Byte) : Entry := (baseMap.getD (op.toNat / 16) []).getD (op.toNat % 16) (.op .nop)

/-- The CB-prefixed instruction of a second byte (R149, R305). Both lookups are inside the map for every byte. -/
def cbInstr (op2 : Byte) : Instr := (cbMap.getD (op2.toNat / 8) []).getD (op2.toNat % 8) .nop

/-- An instruction's length from its first byte (R140). -/
def Entry.size : Entry → Nat
  | .op _     => 1
  | .imm8 _   => 2
  | .imm16 _  => 3
  | .prefixCB => 2

/-- The instruction from the bytes after its opcode; `imm16 = b2 ++ b1` (R146). -/
def Entry.build : Entry → Byte → Byte → Instr
  | .op i, _, _     => i
  | .imm8 f, b1, _  => f b1
  | .imm16 f, b1, b2 => f (joinBytes b2 b1)
  | .prefixCB, b1, _ => cbInstr b1

/-- The instruction that starts with `b0`, and its length, where `b1` and `b2` are the two bytes after it (R140, R152). -/
def decodeWindow (b0 b1 b2 : Byte) : Instr × Nat :=
  ((opcodeEntry b0).build b1 b2, (opcodeEntry b0).size)

/-- Why a byte string is no instruction. No opcode value is refused: the undefined ones decode to their own constructors
(R150, R152). -/
inductive DecodeError where
  /-- There is no opcode byte. -/
  | empty
  /-- The string ends inside the instruction that `op` starts. -/
  | truncated (op : Byte)
deriving DecidableEq, Repr

/-- Decode the first instruction of a byte string, with the bytes after it (R140). -/
def decode : List Byte → Except DecodeError (Instr × List Byte)
  | [] => .error .empty
  | op :: rest =>
    let (i, n) := decodeWindow op (rest.getD 0 0) (rest.getD 1 0)
    if rest.length + 1 < n then .error (.truncated op) else .ok (i, rest.drop (n - 1))

/-- The bytes of a word as opcode_table.json numbers it, up to the longest instruction. A row of 16 bits is a CB row, which the
table writes with the first fetched byte in the high position (R153: `match` = `0xCB47`); every other word has its first byte in
its low bits, and the bytes above are 0 (log entry 10). -/
def tableBytes (nbits w : Nat) : List Byte :=
  let b (i : Nat) : Byte := if 8 * i < nbits then BitVec.ofNat 8 (w >>> (8 * i)) else 0
  if nbits = 16 ∧ b 1 = 0xCB then [b 1, b 0, 0] else [b 0, b 1, b 2]

/-- The instruction the decoder reads from a word of opcode_table.json. -/
def decodeTableWord (nbits w : Nat) : Option Instr :=
  match decode (tableBytes nbits w) with
  | .ok (i, _) => some i
  | .error _   => none

/-- The bytes of an instruction, written from the opcode values of the spec's encodings (R141, R148, R149, R150): the opcode,
then its immediate byte, or the two bytes of its 16-bit immediate, low byte first (R146). -/
def encode : Instr → List Byte
  | .nop => [0x00]
  | .ldBC_nn nn => [0x01, loByte nn, hiByte nn]
  | .ldMBC_A => [0x02]
  | .incBC => [0x03]
  | .incB => [0x04]
  | .decB => [0x05]
  | .ldB_n n => [0x06, n]
  | .rlca => [0x07]
  | .ldMnn_SP nn => [0x08, loByte nn, hiByte nn]
  | .addHL_BC => [0x09]
  | .ldA_MBC => [0x0A]
  | .decBC => [0x0B]
  | .incC => [0x0C]
  | .decC => [0x0D]
  | .ldC_n n => [0x0E, n]
  | .rrca => [0x0F]
  | .stop n => [0x10, n]
  | .ldDE_nn nn => [0x11, loByte nn, hiByte nn]
  | .ldMDE_A => [0x12]
  | .incDE => [0x13]
  | .incD => [0x14]
  | .decD => [0x15]
  | .ldD_n n => [0x16, n]
  | .rla => [0x17]
  | .jr_e e => [0x18, e]
  | .addHL_DE => [0x19]
  | .ldA_MDE => [0x1A]
  | .decDE => [0x1B]
  | .incE => [0x1C]
  | .decE => [0x1D]
  | .ldE_n n => [0x1E, n]
  | .rra => [0x1F]
  | .jrNZ_e e => [0x20, e]
  | .ldHL_nn nn => [0x21, loByte nn, hiByte nn]
  | .ldMHLinc_A => [0x22]
  | .incHL => [0x23]
  | .incH => [0x24]
  | .decH => [0x25]
  | .ldH_n n => [0x26, n]
  | .daa => [0x27]
  | .jrZ_e e => [0x28, e]
  | .addHL_HL => [0x29]
  | .ldA_MHLinc => [0x2A]
  | .decHL => [0x2B]
  | .incL => [0x2C]
  | .decL => [0x2D]
  | .ldL_n n => [0x2E, n]
  | .cpl => [0x2F]
  | .jrNC_e e => [0x30, e]
  | .ldSP_nn nn => [0x31, loByte nn, hiByte nn]
  | .ldMHLdec_A => [0x32]
  | .incSP => [0x33]
  | .incMHL => [0x34]
  | .decMHL => [0x35]
  | .ldMHL_n n => [0x36, n]
  | .scf => [0x37]
  | .jrC_e e => [0x38, e]
  | .addHL_SP => [0x39]
  | .ldA_MHLdec => [0x3A]
  | .decSP => [0x3B]
  | .incA => [0x3C]
  | .decA => [0x3D]
  | .ldA_n n => [0x3E, n]
  | .ccf => [0x3F]
  | .ldB_B => [0x40]
  | .ldB_C => [0x41]
  | .ldB_D => [0x42]
  | .ldB_E => [0x43]
  | .ldB_H => [0x44]
  | .ldB_L => [0x45]
  | .ldB_MHL => [0x46]
  | .ldB_A => [0x47]
  | .ldC_B => [0x48]
  | .ldC_C => [0x49]
  | .ldC_D => [0x4A]
  | .ldC_E => [0x4B]
  | .ldC_H => [0x4C]
  | .ldC_L => [0x4D]
  | .ldC_MHL => [0x4E]
  | .ldC_A => [0x4F]
  | .ldD_B => [0x50]
  | .ldD_C => [0x51]
  | .ldD_D => [0x52]
  | .ldD_E => [0x53]
  | .ldD_H => [0x54]
  | .ldD_L => [0x55]
  | .ldD_MHL => [0x56]
  | .ldD_A => [0x57]
  | .ldE_B => [0x58]
  | .ldE_C => [0x59]
  | .ldE_D => [0x5A]
  | .ldE_E => [0x5B]
  | .ldE_H => [0x5C]
  | .ldE_L => [0x5D]
  | .ldE_MHL => [0x5E]
  | .ldE_A => [0x5F]
  | .ldH_B => [0x60]
  | .ldH_C => [0x61]
  | .ldH_D => [0x62]
  | .ldH_E => [0x63]
  | .ldH_H => [0x64]
  | .ldH_L => [0x65]
  | .ldH_MHL => [0x66]
  | .ldH_A => [0x67]
  | .ldL_B => [0x68]
  | .ldL_C => [0x69]
  | .ldL_D => [0x6A]
  | .ldL_E => [0x6B]
  | .ldL_H => [0x6C]
  | .ldL_L => [0x6D]
  | .ldL_MHL => [0x6E]
  | .ldL_A => [0x6F]
  | .ldMHL_B => [0x70]
  | .ldMHL_C => [0x71]
  | .ldMHL_D => [0x72]
  | .ldMHL_E => [0x73]
  | .ldMHL_H => [0x74]
  | .ldMHL_L => [0x75]
  | .halt => [0x76]
  | .ldMHL_A => [0x77]
  | .ldA_B => [0x78]
  | .ldA_C => [0x79]
  | .ldA_D => [0x7A]
  | .ldA_E => [0x7B]
  | .ldA_H => [0x7C]
  | .ldA_L => [0x7D]
  | .ldA_MHL => [0x7E]
  | .ldA_A => [0x7F]
  | .addA_B => [0x80]
  | .addA_C => [0x81]
  | .addA_D => [0x82]
  | .addA_E => [0x83]
  | .addA_H => [0x84]
  | .addA_L => [0x85]
  | .addA_MHL => [0x86]
  | .addA_A => [0x87]
  | .adcA_B => [0x88]
  | .adcA_C => [0x89]
  | .adcA_D => [0x8A]
  | .adcA_E => [0x8B]
  | .adcA_H => [0x8C]
  | .adcA_L => [0x8D]
  | .adcA_MHL => [0x8E]
  | .adcA_A => [0x8F]
  | .subA_B => [0x90]
  | .subA_C => [0x91]
  | .subA_D => [0x92]
  | .subA_E => [0x93]
  | .subA_H => [0x94]
  | .subA_L => [0x95]
  | .subA_MHL => [0x96]
  | .subA_A => [0x97]
  | .sbcA_B => [0x98]
  | .sbcA_C => [0x99]
  | .sbcA_D => [0x9A]
  | .sbcA_E => [0x9B]
  | .sbcA_H => [0x9C]
  | .sbcA_L => [0x9D]
  | .sbcA_MHL => [0x9E]
  | .sbcA_A => [0x9F]
  | .andA_B => [0xA0]
  | .andA_C => [0xA1]
  | .andA_D => [0xA2]
  | .andA_E => [0xA3]
  | .andA_H => [0xA4]
  | .andA_L => [0xA5]
  | .andA_MHL => [0xA6]
  | .andA_A => [0xA7]
  | .xorA_B => [0xA8]
  | .xorA_C => [0xA9]
  | .xorA_D => [0xAA]
  | .xorA_E => [0xAB]
  | .xorA_H => [0xAC]
  | .xorA_L => [0xAD]
  | .xorA_MHL => [0xAE]
  | .xorA_A => [0xAF]
  | .orA_B => [0xB0]
  | .orA_C => [0xB1]
  | .orA_D => [0xB2]
  | .orA_E => [0xB3]
  | .orA_H => [0xB4]
  | .orA_L => [0xB5]
  | .orA_MHL => [0xB6]
  | .orA_A => [0xB7]
  | .cpA_B => [0xB8]
  | .cpA_C => [0xB9]
  | .cpA_D => [0xBA]
  | .cpA_E => [0xBB]
  | .cpA_H => [0xBC]
  | .cpA_L => [0xBD]
  | .cpA_MHL => [0xBE]
  | .cpA_A => [0xBF]
  | .retNZ => [0xC0]
  | .popBC => [0xC1]
  | .jpNZ_nn nn => [0xC2, loByte nn, hiByte nn]
  | .jp_nn nn => [0xC3, loByte nn, hiByte nn]
  | .callNZ_nn nn => [0xC4, loByte nn, hiByte nn]
  | .pushBC => [0xC5]
  | .addA_n n => [0xC6, n]
  | .rst00 => [0xC7]
  | .retZ => [0xC8]
  | .ret => [0xC9]
  | .jpZ_nn nn => [0xCA, loByte nn, hiByte nn]
  | .callZ_nn nn => [0xCC, loByte nn, hiByte nn]
  | .call_nn nn => [0xCD, loByte nn, hiByte nn]
  | .adcA_n n => [0xCE, n]
  | .rst08 => [0xCF]
  | .retNC => [0xD0]
  | .popDE => [0xD1]
  | .jpNC_nn nn => [0xD2, loByte nn, hiByte nn]
  | .illegalD3 => [0xD3]
  | .callNC_nn nn => [0xD4, loByte nn, hiByte nn]
  | .pushDE => [0xD5]
  | .subA_n n => [0xD6, n]
  | .rst10 => [0xD7]
  | .retC => [0xD8]
  | .reti => [0xD9]
  | .jpC_nn nn => [0xDA, loByte nn, hiByte nn]
  | .illegalDB => [0xDB]
  | .callC_nn nn => [0xDC, loByte nn, hiByte nn]
  | .illegalDD => [0xDD]
  | .sbcA_n n => [0xDE, n]
  | .rst18 => [0xDF]
  | .ldhMn_A n => [0xE0, n]
  | .popHL => [0xE1]
  | .ldMC_A => [0xE2]
  | .illegalE3 => [0xE3]
  | .illegalE4 => [0xE4]
  | .pushHL => [0xE5]
  | .andA_n n => [0xE6, n]
  | .rst20 => [0xE7]
  | .addSP_e e => [0xE8, e]
  | .jpHL => [0xE9]
  | .ldMnn_A nn => [0xEA, loByte nn, hiByte nn]
  | .illegalEB => [0xEB]
  | .illegalEC => [0xEC]
  | .illegalED => [0xED]
  | .xorA_n n => [0xEE, n]
  | .rst28 => [0xEF]
  | .ldhA_Mn n => [0xF0, n]
  | .popAF => [0xF1]
  | .ldA_MC => [0xF2]
  | .di => [0xF3]
  | .illegalF4 => [0xF4]
  | .pushAF => [0xF5]
  | .orA_n n => [0xF6, n]
  | .rst30 => [0xF7]
  | .ldHL_SPe e => [0xF8, e]
  | .ldSP_HL => [0xF9]
  | .ldA_Mnn nn => [0xFA, loByte nn, hiByte nn]
  | .ei => [0xFB]
  | .illegalFC => [0xFC]
  | .illegalFD => [0xFD]
  | .cpA_n n => [0xFE, n]
  | .rst38 => [0xFF]
  | .rlcB => [0xCB, 0x00]
  | .rlcC => [0xCB, 0x01]
  | .rlcD => [0xCB, 0x02]
  | .rlcE => [0xCB, 0x03]
  | .rlcH => [0xCB, 0x04]
  | .rlcL => [0xCB, 0x05]
  | .rlcMHL => [0xCB, 0x06]
  | .rlcA => [0xCB, 0x07]
  | .rrcB => [0xCB, 0x08]
  | .rrcC => [0xCB, 0x09]
  | .rrcD => [0xCB, 0x0A]
  | .rrcE => [0xCB, 0x0B]
  | .rrcH => [0xCB, 0x0C]
  | .rrcL => [0xCB, 0x0D]
  | .rrcMHL => [0xCB, 0x0E]
  | .rrcA => [0xCB, 0x0F]
  | .rl_B => [0xCB, 0x10]
  | .rl_C => [0xCB, 0x11]
  | .rl_D => [0xCB, 0x12]
  | .rl_E => [0xCB, 0x13]
  | .rl_H => [0xCB, 0x14]
  | .rl_L => [0xCB, 0x15]
  | .rl_MHL => [0xCB, 0x16]
  | .rl_A => [0xCB, 0x17]
  | .rr_B => [0xCB, 0x18]
  | .rr_C => [0xCB, 0x19]
  | .rr_D => [0xCB, 0x1A]
  | .rr_E => [0xCB, 0x1B]
  | .rr_H => [0xCB, 0x1C]
  | .rr_L => [0xCB, 0x1D]
  | .rr_MHL => [0xCB, 0x1E]
  | .rr_A => [0xCB, 0x1F]
  | .slaB => [0xCB, 0x20]
  | .slaC => [0xCB, 0x21]
  | .slaD => [0xCB, 0x22]
  | .slaE => [0xCB, 0x23]
  | .slaH => [0xCB, 0x24]
  | .slaL => [0xCB, 0x25]
  | .slaMHL => [0xCB, 0x26]
  | .slaA => [0xCB, 0x27]
  | .sraB => [0xCB, 0x28]
  | .sraC => [0xCB, 0x29]
  | .sraD => [0xCB, 0x2A]
  | .sraE => [0xCB, 0x2B]
  | .sraH => [0xCB, 0x2C]
  | .sraL => [0xCB, 0x2D]
  | .sraMHL => [0xCB, 0x2E]
  | .sraA => [0xCB, 0x2F]
  | .swapB => [0xCB, 0x30]
  | .swapC => [0xCB, 0x31]
  | .swapD => [0xCB, 0x32]
  | .swapE => [0xCB, 0x33]
  | .swapH => [0xCB, 0x34]
  | .swapL => [0xCB, 0x35]
  | .swapMHL => [0xCB, 0x36]
  | .swapA => [0xCB, 0x37]
  | .srlB => [0xCB, 0x38]
  | .srlC => [0xCB, 0x39]
  | .srlD => [0xCB, 0x3A]
  | .srlE => [0xCB, 0x3B]
  | .srlH => [0xCB, 0x3C]
  | .srlL => [0xCB, 0x3D]
  | .srlMHL => [0xCB, 0x3E]
  | .srlA => [0xCB, 0x3F]
  | .bit0_B => [0xCB, 0x40]
  | .bit0_C => [0xCB, 0x41]
  | .bit0_D => [0xCB, 0x42]
  | .bit0_E => [0xCB, 0x43]
  | .bit0_H => [0xCB, 0x44]
  | .bit0_L => [0xCB, 0x45]
  | .bit0_MHL => [0xCB, 0x46]
  | .bit0_A => [0xCB, 0x47]
  | .bit1_B => [0xCB, 0x48]
  | .bit1_C => [0xCB, 0x49]
  | .bit1_D => [0xCB, 0x4A]
  | .bit1_E => [0xCB, 0x4B]
  | .bit1_H => [0xCB, 0x4C]
  | .bit1_L => [0xCB, 0x4D]
  | .bit1_MHL => [0xCB, 0x4E]
  | .bit1_A => [0xCB, 0x4F]
  | .bit2_B => [0xCB, 0x50]
  | .bit2_C => [0xCB, 0x51]
  | .bit2_D => [0xCB, 0x52]
  | .bit2_E => [0xCB, 0x53]
  | .bit2_H => [0xCB, 0x54]
  | .bit2_L => [0xCB, 0x55]
  | .bit2_MHL => [0xCB, 0x56]
  | .bit2_A => [0xCB, 0x57]
  | .bit3_B => [0xCB, 0x58]
  | .bit3_C => [0xCB, 0x59]
  | .bit3_D => [0xCB, 0x5A]
  | .bit3_E => [0xCB, 0x5B]
  | .bit3_H => [0xCB, 0x5C]
  | .bit3_L => [0xCB, 0x5D]
  | .bit3_MHL => [0xCB, 0x5E]
  | .bit3_A => [0xCB, 0x5F]
  | .bit4_B => [0xCB, 0x60]
  | .bit4_C => [0xCB, 0x61]
  | .bit4_D => [0xCB, 0x62]
  | .bit4_E => [0xCB, 0x63]
  | .bit4_H => [0xCB, 0x64]
  | .bit4_L => [0xCB, 0x65]
  | .bit4_MHL => [0xCB, 0x66]
  | .bit4_A => [0xCB, 0x67]
  | .bit5_B => [0xCB, 0x68]
  | .bit5_C => [0xCB, 0x69]
  | .bit5_D => [0xCB, 0x6A]
  | .bit5_E => [0xCB, 0x6B]
  | .bit5_H => [0xCB, 0x6C]
  | .bit5_L => [0xCB, 0x6D]
  | .bit5_MHL => [0xCB, 0x6E]
  | .bit5_A => [0xCB, 0x6F]
  | .bit6_B => [0xCB, 0x70]
  | .bit6_C => [0xCB, 0x71]
  | .bit6_D => [0xCB, 0x72]
  | .bit6_E => [0xCB, 0x73]
  | .bit6_H => [0xCB, 0x74]
  | .bit6_L => [0xCB, 0x75]
  | .bit6_MHL => [0xCB, 0x76]
  | .bit6_A => [0xCB, 0x77]
  | .bit7_B => [0xCB, 0x78]
  | .bit7_C => [0xCB, 0x79]
  | .bit7_D => [0xCB, 0x7A]
  | .bit7_E => [0xCB, 0x7B]
  | .bit7_H => [0xCB, 0x7C]
  | .bit7_L => [0xCB, 0x7D]
  | .bit7_MHL => [0xCB, 0x7E]
  | .bit7_A => [0xCB, 0x7F]
  | .res0_B => [0xCB, 0x80]
  | .res0_C => [0xCB, 0x81]
  | .res0_D => [0xCB, 0x82]
  | .res0_E => [0xCB, 0x83]
  | .res0_H => [0xCB, 0x84]
  | .res0_L => [0xCB, 0x85]
  | .res0_MHL => [0xCB, 0x86]
  | .res0_A => [0xCB, 0x87]
  | .res1_B => [0xCB, 0x88]
  | .res1_C => [0xCB, 0x89]
  | .res1_D => [0xCB, 0x8A]
  | .res1_E => [0xCB, 0x8B]
  | .res1_H => [0xCB, 0x8C]
  | .res1_L => [0xCB, 0x8D]
  | .res1_MHL => [0xCB, 0x8E]
  | .res1_A => [0xCB, 0x8F]
  | .res2_B => [0xCB, 0x90]
  | .res2_C => [0xCB, 0x91]
  | .res2_D => [0xCB, 0x92]
  | .res2_E => [0xCB, 0x93]
  | .res2_H => [0xCB, 0x94]
  | .res2_L => [0xCB, 0x95]
  | .res2_MHL => [0xCB, 0x96]
  | .res2_A => [0xCB, 0x97]
  | .res3_B => [0xCB, 0x98]
  | .res3_C => [0xCB, 0x99]
  | .res3_D => [0xCB, 0x9A]
  | .res3_E => [0xCB, 0x9B]
  | .res3_H => [0xCB, 0x9C]
  | .res3_L => [0xCB, 0x9D]
  | .res3_MHL => [0xCB, 0x9E]
  | .res3_A => [0xCB, 0x9F]
  | .res4_B => [0xCB, 0xA0]
  | .res4_C => [0xCB, 0xA1]
  | .res4_D => [0xCB, 0xA2]
  | .res4_E => [0xCB, 0xA3]
  | .res4_H => [0xCB, 0xA4]
  | .res4_L => [0xCB, 0xA5]
  | .res4_MHL => [0xCB, 0xA6]
  | .res4_A => [0xCB, 0xA7]
  | .res5_B => [0xCB, 0xA8]
  | .res5_C => [0xCB, 0xA9]
  | .res5_D => [0xCB, 0xAA]
  | .res5_E => [0xCB, 0xAB]
  | .res5_H => [0xCB, 0xAC]
  | .res5_L => [0xCB, 0xAD]
  | .res5_MHL => [0xCB, 0xAE]
  | .res5_A => [0xCB, 0xAF]
  | .res6_B => [0xCB, 0xB0]
  | .res6_C => [0xCB, 0xB1]
  | .res6_D => [0xCB, 0xB2]
  | .res6_E => [0xCB, 0xB3]
  | .res6_H => [0xCB, 0xB4]
  | .res6_L => [0xCB, 0xB5]
  | .res6_MHL => [0xCB, 0xB6]
  | .res6_A => [0xCB, 0xB7]
  | .res7_B => [0xCB, 0xB8]
  | .res7_C => [0xCB, 0xB9]
  | .res7_D => [0xCB, 0xBA]
  | .res7_E => [0xCB, 0xBB]
  | .res7_H => [0xCB, 0xBC]
  | .res7_L => [0xCB, 0xBD]
  | .res7_MHL => [0xCB, 0xBE]
  | .res7_A => [0xCB, 0xBF]
  | .set0_B => [0xCB, 0xC0]
  | .set0_C => [0xCB, 0xC1]
  | .set0_D => [0xCB, 0xC2]
  | .set0_E => [0xCB, 0xC3]
  | .set0_H => [0xCB, 0xC4]
  | .set0_L => [0xCB, 0xC5]
  | .set0_MHL => [0xCB, 0xC6]
  | .set0_A => [0xCB, 0xC7]
  | .set1_B => [0xCB, 0xC8]
  | .set1_C => [0xCB, 0xC9]
  | .set1_D => [0xCB, 0xCA]
  | .set1_E => [0xCB, 0xCB]
  | .set1_H => [0xCB, 0xCC]
  | .set1_L => [0xCB, 0xCD]
  | .set1_MHL => [0xCB, 0xCE]
  | .set1_A => [0xCB, 0xCF]
  | .set2_B => [0xCB, 0xD0]
  | .set2_C => [0xCB, 0xD1]
  | .set2_D => [0xCB, 0xD2]
  | .set2_E => [0xCB, 0xD3]
  | .set2_H => [0xCB, 0xD4]
  | .set2_L => [0xCB, 0xD5]
  | .set2_MHL => [0xCB, 0xD6]
  | .set2_A => [0xCB, 0xD7]
  | .set3_B => [0xCB, 0xD8]
  | .set3_C => [0xCB, 0xD9]
  | .set3_D => [0xCB, 0xDA]
  | .set3_E => [0xCB, 0xDB]
  | .set3_H => [0xCB, 0xDC]
  | .set3_L => [0xCB, 0xDD]
  | .set3_MHL => [0xCB, 0xDE]
  | .set3_A => [0xCB, 0xDF]
  | .set4_B => [0xCB, 0xE0]
  | .set4_C => [0xCB, 0xE1]
  | .set4_D => [0xCB, 0xE2]
  | .set4_E => [0xCB, 0xE3]
  | .set4_H => [0xCB, 0xE4]
  | .set4_L => [0xCB, 0xE5]
  | .set4_MHL => [0xCB, 0xE6]
  | .set4_A => [0xCB, 0xE7]
  | .set5_B => [0xCB, 0xE8]
  | .set5_C => [0xCB, 0xE9]
  | .set5_D => [0xCB, 0xEA]
  | .set5_E => [0xCB, 0xEB]
  | .set5_H => [0xCB, 0xEC]
  | .set5_L => [0xCB, 0xED]
  | .set5_MHL => [0xCB, 0xEE]
  | .set5_A => [0xCB, 0xEF]
  | .set6_B => [0xCB, 0xF0]
  | .set6_C => [0xCB, 0xF1]
  | .set6_D => [0xCB, 0xF2]
  | .set6_E => [0xCB, 0xF3]
  | .set6_H => [0xCB, 0xF4]
  | .set6_L => [0xCB, 0xF5]
  | .set6_MHL => [0xCB, 0xF6]
  | .set6_A => [0xCB, 0xF7]
  | .set7_B => [0xCB, 0xF8]
  | .set7_C => [0xCB, 0xF9]
  | .set7_D => [0xCB, 0xFA]
  | .set7_E => [0xCB, 0xFB]
  | .set7_H => [0xCB, 0xFC]
  | .set7_L => [0xCB, 0xFD]
  | .set7_MHL => [0xCB, 0xFE]
  | .set7_A => [0xCB, 0xFF]

end Sys2Proof
end

