-- ==== Sys2Proof/Machine/Flags.lean ====
section
/-! DEFINITION. The flag byte F (R23, R24) and every flag computation of the spec: sums and differences "as integers" (R10,
R232), the logic operations, DAA, and the bit a rotate or shift moves out (R215 to R265). Each computation returns its result
with the new flag byte. -/

namespace Sys2Proof.Machine

/-- F from its four flags: Z = F[7], N = F[6], Hf = F[5], Cf = F[4], F[3:0] = 0 (R23, R24; log entry 12). -/
def mkFlags (z n h c : Bool) : Byte :=
  BitVec.ofBool z ++ BitVec.ofBool n ++ BitVec.ofBool h ++ BitVec.ofBool c ++ 0b0000#4

/-- `Z` of a flag byte (R23). -/
def flagZ (f : Byte) : Bool := f.getLsbD 7
/-- `N` of a flag byte (R23). -/
def flagN (f : Byte) : Bool := f.getLsbD 6
/-- `Hf` of a flag byte (R23). -/
def flagH (f : Byte) : Bool := f.getLsbD 5
/-- `Cf` of a flag byte (R23). -/
def flagC (f : Byte) : Bool := f.getLsbD 4

/-- `v[7:4] ++ 0b0000`: what POP AF and a write of the pair AF put in F (R21, R24, R207). -/
def maskFlags (v : Byte) : Byte := v &&& 0xF0

/-- `Z <- (v = 0)`. -/
def isZero (v : Byte) : Bool := decide (v = 0)

/-- A + x + c, with the carries out of bits 3 and 7 (R215, R216). -/
def addCarry (a x : Byte) (c : Bool) : Byte × Byte :=
  let r := BitVec.ofNat 8 (a.toNat + x.toNat + bitNat c)
  (r, mkFlags (isZero r) false
    (decide (nibble a + nibble x + bitNat c > 0xF)) (decide (a.toNat + x.toNat + bitNat c > 0xFF)))

/-- A - x - c, with the borrows into bits 4 and 8 (R217, R218, R222). -/
def subBorrow (a x : Byte) (c : Bool) : Byte × Byte :=
  let r := BitVec.ofInt 8 ((a.toNat : Int) - x.toNat - bitNat c)
  (r, mkFlags (isZero r) true
    (decide (nibble a < nibble x + bitNat c)) (decide (a.toNat < x.toNat + bitNat c)))

/-- `A & x` (R219). -/
def andLogic (a x : Byte) : Byte × Byte := (a &&& x, mkFlags (isZero (a &&& x)) false true false)

/-- `A ^ x` (R220). -/
def xorLogic (a x : Byte) : Byte × Byte := (a ^^^ x, mkFlags (isZero (a ^^^ x)) false false false)

/-- `A | x` (R221). -/
def orLogic (a x : Byte) : Byte × Byte := (a ||| x, mkFlags (isZero (a ||| x)) false false false)

/-- `v + 1`; Cf kept (R223, R224). -/
def incByte (f v : Byte) : Byte × Byte :=
  (v + 1, mkFlags (isZero (v + 1)) false (decide (nibble v = 0xF)) (flagC f))

/-- `v - 1`; Cf kept (R225, R226). -/
def decByte (f v : Byte) : Byte × Byte :=
  (v - 1, mkFlags (isZero (v - 1)) true (decide (nibble v = 0x0)) (flagC f))

/-- The 0x06 part of DAA's adjustment (R227). -/
def daaLow (f a : Byte) : Bool := flagH f || (!flagN f && decide (nibble a > 0x9))

/-- The 0x60 part of DAA's adjustment, which is also the new Cf (R227). -/
def daaHigh (f a : Byte) : Bool := flagC f || (!flagN f && decide (a.toNat > 0x99))

/-- DAA's adjustment `adj` (R227). -/
def daaAdjust (f a : Byte) : Byte := (if daaLow f a then 0x06 else 0) ||| (if daaHigh f a then 0x60 else 0)

/-- DAA (R227). -/
def daaByte (f a : Byte) : Byte × Byte :=
  let r := if flagN f then a - daaAdjust f a else a + daaAdjust f a
  (r, mkFlags (isZero r) (flagN f) false (daaHigh f a))

/-- CPL (R228). -/
def cplByte (f a : Byte) : Byte × Byte := (a ^^^ 0xFF, mkFlags (flagZ f) true true (flagC f))

/-- SCF's flags (R229). -/
def scfFlags (f : Byte) : Byte := mkFlags (flagZ f) false false true

/-- CCF's flags (R230). -/
def ccfFlags (f : Byte) : Byte := mkFlags (flagZ f) false false (!flagC f)

/-- HL + v, with the carries out of bits 11 and 15; Z kept (R240). -/
def addWords (f : Byte) (hl v : Word) : Word × Byte :=
  (hl + v, mkFlags (flagZ f) false
    (decide (hl.toNat % 0x1000 + v.toNat % 0x1000 > 0x0FFF)) (decide (hl.toNat + v.toNat > 0xFFFF)))

/-- SP + e, with the carries of the unsigned sum of the low bytes (R203, R243). -/
def addSigned (sp : Word) (e : Byte) : Word × Byte :=
  (sp + signExtend16 e, mkFlags false false
    (decide (sp.toNat % 16 + nibble e > 0xF)) (decide (sp.toNat % 256 + e.toNat > 0xFF)))

/-- Rotate left circularly: the result and the bit moved out (R250, R255). -/
def rotLeft (v : Byte) (_c : Bool) : Byte × Bool := (v.extractLsb' 0 7 ++ BitVec.ofBool (bitOf v 7), bitOf v 7)

/-- Rotate right circularly (R252, R256). -/
def rotRight (v : Byte) (_c : Bool) : Byte × Bool := (BitVec.ofBool (bitOf v 0) ++ v.extractLsb' 1 7, bitOf v 0)

/-- Rotate left through carry (R251, R257). -/
def rotLeftCarry (v : Byte) (c : Bool) : Byte × Bool := (v.extractLsb' 0 7 ++ BitVec.ofBool c, bitOf v 7)

/-- Rotate right through carry (R253, R258). -/
def rotRightCarry (v : Byte) (c : Bool) : Byte × Bool := (BitVec.ofBool c ++ v.extractLsb' 1 7, bitOf v 0)

/-- Shift left arithmetic (R259). -/
def shiftLeft (v : Byte) (_c : Bool) : Byte × Bool := (v.extractLsb' 0 7 ++ 0b0#1, bitOf v 7)

/-- Shift right arithmetic, bit 7 kept (R260). -/
def shiftRightArith (v : Byte) (_c : Bool) : Byte × Bool := (BitVec.ofBool (bitOf v 7) ++ v.extractLsb' 1 7, bitOf v 0)

/-- Exchange the nibbles; the bit moved out is 0 (R261). -/
def swapNibbles (v : Byte) (_c : Bool) : Byte × Bool := (v.extractLsb' 0 4 ++ v.extractLsb' 4 4, false)

/-- Shift right logical (R262). -/
def shiftRight (v : Byte) (_c : Bool) : Byte × Bool := (0b0#1 ++ v.extractLsb' 1 7, bitOf v 0)

/-- The flags of the CB-prefixed rotates, shifts and SWAP: Z from the result, N = Hf = 0, Cf the bit moved out (R255 to
R262). -/
def rotFlags (w : Byte) (out : Bool) : Byte := mkFlags (isZero w) false false out

/-- The flags of the accumulator rotates: Z = N = Hf = 0 (R250 to R253). -/
def accRotFlags (out : Bool) : Byte := mkFlags false false false out

/-- BIT's flags: Z the complement of bit `i`, N = 0, Hf = 1, Cf kept (R263). -/
def bitFlags (f v : Byte) (i : Nat) : Byte := mkFlags (!bitOf v i) false true (flagC f)

/-- `v & ~(1 << i)` (R264). -/
def clearBit (v : Byte) (i : Nat) : Byte := v &&& ~~~(1#8 <<< i)

/-- `v | (1 << i)` (R265). -/
def setBit (v : Byte) (i : Nat) : Byte := v ||| 1#8 <<< i

end Sys2Proof.Machine
end

