-- ==== Sys2Proof/Machine/Ops.lean ====
section
/-! DEFINITION. The named operations over registers and memory, and the two ways control leaves the instruction stream:
taking an interrupt and raising IllegalOpcode, with the return from a handler beside them (R204, R205, R289, R320, R333). -/

namespace Sys2Proof.Machine

/-- What a meaning answers. -/
abbrev Result := Host.Outcome State Fault Refusal

/-- `cycles <- n`: the T-cycles `step()` returns (R11), added to the quantum's count and to the total (R392). -/
def State.tick (s : State) (n : Nat) : State :=
  { s with consumed := s.consumed + n, cpuCycles := s.cpuCycles + n }

/-- `PC <- target` (R11). -/
def State.setPc (s : State) (v : Word) : State := { s with regs := { s.regs with pc := v } }

/-- `SP <- v` (R11). -/
def State.setSp (s : State) (v : Word) : State := { s with regs := { s.regs with sp := v } }

/-- Write A. -/
def State.setA (s : State) (v : Byte) : State := { s with regs := { s.regs with a := v } }

/-- Write F, a whole flag byte. -/
def State.setF (s : State) (v : Byte) : State := { s with regs := { s.regs with f := v } }

/-- The pair HL (R21). -/
def State.hl (s : State) : Word := joinBytes s.regs.h s.regs.l

/-- `HL <- v` (R21). -/
def State.setHl (s : State) (v : Word) : State := { s with regs := { s.regs with h := hiByte v, l := loByte v } }

/-- `MemRead(a, 1)` (R62). -/
def State.read (s : State) (a : Word) : Byte := s.bus.read a

/-- `MemWrite(a, 1, v)` (R63). -/
def State.write (s : State) (a : Word) (v : Byte) : State := { s with bus := s.bus.write a v }

/-- `MemRead(a, 2)`: low byte at the lower address, addresses modulo 2^16 (R64). -/
def State.read16 (s : State) (a : Word) : Word := joinBytes (s.read (a + 1)) (s.read a)

/-- `MemWrite(a, 2, v)`: the low byte first, then the high byte at `a + 1` (R65). -/
def State.write16 (s : State) (a v : Word) : State := (s.write a (loByte v)).write (a + 1) (hiByte v)

/-- `push16(v)` (R204). -/
def State.push16 (s : State) (v : Word) : State :=
  let sp := s.regs.sp - 2
  (s.setSp sp).write16 sp v

/-- `pop16()`'s value (R205). -/
def State.top16 (s : State) : Word := s.read16 s.regs.sp

/-- `pop16()`'s effect on SP (R205). -/
def State.dropTop (s : State) : State := s.setSp (s.regs.sp + 2)

/-- `IE & IF & 0x1F` (R333). -/
def State.pending (s : State) : BitVec 5 := s.bus.ie.setWidth 5 &&& s.bus.ifl

/-- The five sources in priority order (R325, R328). -/
def interruptOrder : List Interrupt := [.vblank, .lcdStat, .timer, .serial, .joypad]

/-- The least-numbered pending enabled source (R328, R333). -/
def State.nextInterrupt (s : State) : Option Interrupt :=
  interruptOrder.find? fun i => s.pending.getLsbD i.bit

/-- The fixed vector of a source, `0x0040 + 8 * i` (R330). -/
def Interrupt.vector (i : Interrupt) : Word := 0x0040 + 8 * BitVec.ofNat 16 i.bit

/-- Taking an interrupt (R333, R334, D42): IME and `ei_pending` cleared, the one request bit cleared, PC pushed, PC at the
vector, 20 T-cycles (R335). -/
def State.takeInterrupt (s : State) (i : Interrupt) : State :=
  let s' := { s with ime := false, eiPending := false, bus := { s.bus with ifl := s.bus.ifl &&& ~~~i.mask } }
  ((s'.push16 s'.regs.pc).setPc i.vector).tick 20

/-- `raise IllegalOpcode(op)` (R306, R320): PC back on the illegal byte, `cpu_alive <- false`, 4 T-cycles. The state it is given
has PC past the one fetched byte. -/
def State.raiseIllegalOpcode (s : State) : State :=
  { s.setPc (s.regs.pc - 1) with cpuAlive := false }.tick 4

/-- `PC <- pop16()`: the return (R287). -/
def State.popPc (s : State) : State := s.dropTop.setPc s.top16

/-- The return from an interrupt handler (R289): pop PC, IME at once, `ei_pending` cleared. -/
def State.returnFromInterrupt (s : State) : State :=
  { s.popPc with ime := true, eiPending := false }

/-- Wake-up from standby, whatever IME is (R333). -/
def State.wake (s : State) : State := if s.pending ≠ 0 then { s with halted := false } else s

/-- EI's delayed effect (R32, R333). -/
def State.applyEi (s : State) : State :=
  if s.eiPending then { s with ime := true, eiPending := false } else s

/-- The three bytes from PC on, each through the router, addresses modulo 2^16 (R26, R27, R73). Reads have no effect (R69), so
looking at bytes past a short instruction changes nothing (log entry 5). -/
def State.fetchBytes (s : State) : Byte × Byte × Byte :=
  (s.read s.regs.pc, s.read (s.regs.pc + 1), s.read (s.regs.pc + 2))

/-- The instruction at PC and its length (R140, R152). -/
def State.fetch (s : State) : Instr × Nat :=
  let (b0, b1, b2) := s.fetchBytes
  decodeWindow b0 b1 b2

/-- PC moved past the fetched bytes (R26, R27). -/
def State.advance (s : State) (n : Nat) : State := s.setPc (s.regs.pc + BitVec.ofNat 16 n)

/-- Put a byte into the ROM image behind `bank`, lengthening the image where it ends earlier. Used by `pokeCode` alone: no
machine step writes a ROM byte (R63). -/
def Cart.pokeRom (c : Cart) (bank offset : Nat) (v : Byte) : Cart :=
  let i := bank * 0x4000 + offset
  { c with rom := cellSet c.rom i v, romLen := max c.romLen (i + 1) }

/-- Put a byte into the external RAM the region reaches, where there is any. -/
def Cart.pokeRam (c : Cart) (o : Nat) (v : Byte) : Cart :=
  match c.ramTarget with
  | .bank n  => { c with eram := cellSet c.eram (n * 0x2000 + o) v }
  | .absent  => c
  | .clock _ => c

/-- Put a byte into the storage a fetch at `a` reads, from outside the machine (log entry 11): the overlay, the mapped ROM bank,
or the RAM array. A plain I/O byte and IE are stored; an I/O register is left alone. -/
def Bus.pokeCode (b : Bus) (a : Word) (v : Byte) : Bus :=
  match regionOf a with
  | .rom n    =>
    match b.overlay with
    | some boot =>
      if n ≤ 0x00FF then { b with boot := some (cellSet boot n v) }
      else if n ≤ 0x3FFF then { b with cart := b.cart.pokeRom b.cart.lowBank n v }
      else { b with cart := b.cart.pokeRom b.cart.highBank (n - 0x4000) v }
    | none =>
      if n ≤ 0x3FFF then { b with cart := b.cart.pokeRom b.cart.lowBank n v }
      else { b with cart := b.cart.pokeRom b.cart.highBank (n - 0x4000) v }
  | .vram o   => { b with vram := cellSet b.vram o v }
  | .eram o   => { b with cart := b.cart.pokeRam o v }
  | .wram o   => { b with wram := cellSet b.wram o v }
  | .oam o    => { b with oam := cellSet b.oam o v }
  | .unused o => { b with unused := cellSet b.unused o v }
  | .io o     =>
    match ioRegOf o with
    | .plain k => { b with ioPlain := cellSet b.ioPlain k v }
    | _        => b
  | .hram o   => { b with hram := cellSet b.hram o v }
  | .ie       => { b with ie := v }

/-- Lay `bytes` from address `a` on into the storage a fetch reads. -/
def Bus.pokeBytes (b : Bus) (a : Word) : List Byte → Bus
  | [] => b
  | v :: vs => Bus.pokeBytes (b.pokeCode a v) (a + 1) vs

/-- Whether a byte put at `a` is what a fetch there reads, once nothing blocks it: not so for an I/O register, a clock register
or absent external RAM. -/
def Bus.holdsCode (b : Bus) (a : Word) : Bool :=
  match regionOf a with
  | .io o   =>
    match ioRegOf o with
    | .plain _ => true
    | _        => false
  | .eram _ =>
    match b.cart.ramTarget with
    | .bank _  => true
    | .absent  => false
    | .clock _ => false
  | _       => true

/-- Where the next instruction is put: at PC, or at 0xC000 when the bytes at PC are no storage (log entry 11). -/
def State.codeAddress (s : State) : Word :=
  if s.bus.holdsCode s.regs.pc && s.bus.holdsCode (s.regs.pc + 1) && s.bus.holdsCode (s.regs.pc + 2) then s.regs.pc
  else 0xC000

/-- Whether display blocking hides the byte at `a` from a fetch (R73, R90). -/
def Bus.blockedAt (b : Bus) (a : Word) : Bool :=
  match regionOf a with
  | .vram _ => b.vramBlocked
  | .oam _  => b.oamBlocked
  | _       => false

/-- No blocking of the three bytes from PC on. -/
def State.unblocked (s : State) : State :=
  if s.bus.blockedAt s.regs.pc || s.bus.blockedAt (s.regs.pc + 1) || s.bus.blockedAt (s.regs.pc + 2) then
    { s with bus := { s.bus with contention := false } }
  else s

/-- A machine whose next step fetches: alive, not halted, no interrupt to dispatch, its quantum not used up (log entry 11). -/
def State.readyToFetch (s : State) : State :=
  { s with
    cpuAlive := true
    halted   := false
    ime      := if s.pending = 0 then s.ime else false
    quantum  := max s.quantum 4
    consumed := if s.consumed + s.carry < s.quantum then s.consumed else 0
    carry    := if s.consumed + s.carry < s.quantum then s.carry else 0 }

/-- The machine with `bytes` as its next instruction (log entry 11). -/
def State.placeCode (s : State) (bytes : List Byte) : State :=
  let s' := s.setPc s.codeAddress
  ({ s' with bus := s'.bus.pokeBytes s'.regs.pc bytes }.unblocked).readyToFetch

end Sys2Proof.Machine
end

