-- ==== Sys2Proof/Machine/Operands.lean ====
section
/-! DEFINITION. Every operand form (R144 to R147): the 8-bit registers and the byte at HL, the three 16-bit tables, and the
conditions. -/

namespace Sys2Proof.Machine

/-- `r8[i]` for a register code (R144). -/
def Regs.get (r : Regs) : Reg8 → Byte
  | .b => r.b
  | .c => r.c
  | .d => r.d
  | .e => r.e
  | .h => r.h
  | .l => r.l
  | .a => r.a

/-- `r8[i] <- v` for a register code (R144). -/
def Regs.set (r : Regs) (i : Reg8) (v : Byte) : Regs :=
  match i with
  | .b => { r with b := v }
  | .c => { r with c := v }
  | .d => { r with d := v }
  | .e => { r with e := v }
  | .h => { r with h := v }
  | .l => { r with l := v }
  | .a => { r with a := v }

/-- Read a register operand. -/
def State.reg (s : State) (i : Reg8) : Byte := s.regs.get i

/-- Write a register operand. -/
def State.setReg (s : State) (i : Reg8) (v : Byte) : State := { s with regs := s.regs.set i v }

/-- The `r16` table (R145). -/
def Regs.get16 (r : Regs) : Reg16 → Word
  | .bc => joinBytes r.b r.c
  | .de => joinBytes r.d r.e
  | .hl => joinBytes r.h r.l
  | .sp => r.sp

/-- `r16[rr] <- v` (R21, R145). -/
def Regs.set16 (r : Regs) (i : Reg16) (v : Word) : Regs :=
  match i with
  | .bc => { r with b := hiByte v, c := loByte v }
  | .de => { r with d := hiByte v, e := loByte v }
  | .hl => { r with h := hiByte v, l := loByte v }
  | .sp => { r with sp := v }

/-- Read an `r16` operand. -/
def State.reg16 (s : State) (i : Reg16) : Word := s.regs.get16 i

/-- Write an `r16` operand. -/
def State.setReg16 (s : State) (i : Reg16) (v : Word) : State := { s with regs := s.regs.set16 i v }

/-- The `r16s` table of PUSH and POP (R145). -/
def Regs.getStack (r : Regs) : StackPair → Word
  | .bc => joinBytes r.b r.c
  | .de => joinBytes r.d r.e
  | .hl => joinBytes r.h r.l
  | .af => joinBytes r.a r.f

/-- `r16s[rr] <- v`; AF keeps F[3:0] at 0 (R21, R24, R207). -/
def Regs.setStack (r : Regs) (i : StackPair) (v : Word) : Regs :=
  match i with
  | .bc => { r with b := hiByte v, c := loByte v }
  | .de => { r with d := hiByte v, e := loByte v }
  | .hl => { r with h := hiByte v, l := loByte v }
  | .af => { r with a := hiByte v, f := maskFlags (loByte v) }

/-- Write a PUSH/POP pair. -/
def State.setStack (s : State) (i : StackPair) (v : Word) : State := { s with regs := s.regs.setStack i v }

/-- `cond(cc)` (R147). -/
def State.cond (s : State) : Cond → Bool
  | .nz => !flagZ s.regs.f
  | .z  => flagZ s.regs.f
  | .nc => !flagC s.regs.f
  | .c  => flagC s.regs.f

end Sys2Proof.Machine
end

