-- ==== Sys2Proof/Machine/Alu16.lean ====
section
/-! DEFINITION. The 16-bit arithmetic instructions (43_alu16.md, R240 to R243). -/

namespace Sys2Proof.Machine

/-- `ADD HL,rr` (R240). -/
def addHl (rr : Reg16) (s : State) : State :=
  let r := addWords s.regs.f s.hl (s.reg16 rr)
  ((s.setHl r.1).setF r.2).tick 8

/-- `INC rr` (R241). -/
def incPair (rr : Reg16) (s : State) : State := (s.setReg16 rr (s.reg16 rr + 1)).tick 8

/-- `DEC rr` (R242). -/
def decPair (rr : Reg16) (s : State) : State := (s.setReg16 rr (s.reg16 rr - 1)).tick 8

/-- `ADD SP,e` (R243). -/
def addSpe (e : Byte) (s : State) : State :=
  ((s.setSp (addSigned s.regs.sp e).1).setF (addSigned s.regs.sp e).2).tick 16

/-- `INC BC` (R241). -/
def execIncBC (s : State) : Result := .next (incPair .bc s)
/-- `ADD HL,BC` (R240). -/
def execAddHL_BC (s : State) : Result := .next (addHl .bc s)
/-- `DEC BC` (R242). -/
def execDecBC (s : State) : Result := .next (decPair .bc s)
/-- `INC DE` (R241). -/
def execIncDE (s : State) : Result := .next (incPair .de s)
/-- `ADD HL,DE` (R240). -/
def execAddHL_DE (s : State) : Result := .next (addHl .de s)
/-- `DEC DE` (R242). -/
def execDecDE (s : State) : Result := .next (decPair .de s)
/-- `INC HL` (R241). -/
def execIncHL (s : State) : Result := .next (incPair .hl s)
/-- `ADD HL,HL` (R240). -/
def execAddHL_HL (s : State) : Result := .next (addHl .hl s)
/-- `DEC HL` (R242). -/
def execDecHL (s : State) : Result := .next (decPair .hl s)
/-- `INC SP` (R241). -/
def execIncSP (s : State) : Result := .next (incPair .sp s)
/-- `ADD HL,SP` (R240). -/
def execAddHL_SP (s : State) : Result := .next (addHl .sp s)
/-- `DEC SP` (R242). -/
def execDecSP (s : State) : Result := .next (decPair .sp s)
/-- `ADD SP,e` (R243). -/
def execAddSP_e (e : Byte) (s : State) : Result := .next (addSpe e s)

end Sys2Proof.Machine
end

