-- ==== Sys2Proof/Machine/Alu8.lean ====
section
/-! DEFINITION. The 8-bit arithmetic and logic instructions (42_alu8.md, R215 to R232). -/

namespace Sys2Proof.Machine

/-- Write A and F together. -/
def State.setAF (s : State) (r : Byte × Byte) : State := (s.setA r.1).setF r.2

/-- `ADD A,x` (R215). -/
def aluAdd (s : State) (x : Byte) : State := s.setAF (addCarry s.regs.a x false)

/-- `ADC A,x` (R216). -/
def aluAdc (s : State) (x : Byte) : State := s.setAF (addCarry s.regs.a x (flagC s.regs.f))

/-- `SUB A,x` (R217). -/
def aluSub (s : State) (x : Byte) : State := s.setAF (subBorrow s.regs.a x false)

/-- `SBC A,x` (R218). -/
def aluSbc (s : State) (x : Byte) : State := s.setAF (subBorrow s.regs.a x (flagC s.regs.f))

/-- `AND A,x` (R219). -/
def aluAnd (s : State) (x : Byte) : State := s.setAF (andLogic s.regs.a x)

/-- `XOR A,x` (R220). -/
def aluXor (s : State) (x : Byte) : State := s.setAF (xorLogic s.regs.a x)

/-- `OR A,x` (R221). -/
def aluOr (s : State) (x : Byte) : State := s.setAF (orLogic s.regs.a x)

/-- `CP A,x`: the flags of SUB, A kept (R222). -/
def aluCp (s : State) (x : Byte) : State := s.setF (subBorrow s.regs.a x false).2

/-- An accumulator operation on a register (R231 (a)). -/
def aluReg (op : State → Byte → State) (r : Reg8) (s : State) : State := (op s (s.reg r)).tick 4

/-- An accumulator operation on the byte at HL (R231 (b)). -/
def aluMem (op : State → Byte → State) (s : State) : State := (op s (s.read s.hl)).tick 8

/-- An accumulator operation on an immediate (R231 (c)). -/
def aluImm (op : State → Byte → State) (n : Byte) (s : State) : State := (op s n).tick 8

/-- `INC r` (R223). -/
def incReg (r : Reg8) (s : State) : State :=
  ((s.setReg r (incByte s.regs.f (s.reg r)).1).setF (incByte s.regs.f (s.reg r)).2).tick 4

/-- `DEC r` (R225). -/
def decReg (r : Reg8) (s : State) : State :=
  ((s.setReg r (decByte s.regs.f (s.reg r)).1).setF (decByte s.regs.f (s.reg r)).2).tick 4

/-- `INC (HL)`: the flags follow the value computed (R224). -/
def incMem (s : State) : State :=
  let r := incByte s.regs.f (s.read s.hl)
  ((s.write s.hl r.1).setF r.2).tick 12

/-- `DEC (HL)`: the flags follow the value computed (R226). -/
def decMem (s : State) : State :=
  let r := decByte s.regs.f (s.read s.hl)
  ((s.write s.hl r.1).setF r.2).tick 12

/-- `DAA` (R227). -/
def aluDaa (s : State) : State := (s.setAF (daaByte s.regs.f s.regs.a)).tick 4

/-- `CPL` (R228). -/
def aluCpl (s : State) : State := (s.setAF (cplByte s.regs.f s.regs.a)).tick 4

/-- `SCF` (R229). -/
def aluScf (s : State) : State := (s.setF (scfFlags s.regs.f)).tick 4

/-- `CCF` (R230). -/
def aluCcf (s : State) : State := (s.setF (ccfFlags s.regs.f)).tick 4

/-- `INC B` (R223). -/
def execIncB (s : State) : Result := .next (incReg .b s)
/-- `DEC B` (R225). -/
def execDecB (s : State) : Result := .next (decReg .b s)
/-- `INC C` (R223). -/
def execIncC (s : State) : Result := .next (incReg .c s)
/-- `DEC C` (R225). -/
def execDecC (s : State) : Result := .next (decReg .c s)
/-- `INC D` (R223). -/
def execIncD (s : State) : Result := .next (incReg .d s)
/-- `DEC D` (R225). -/
def execDecD (s : State) : Result := .next (decReg .d s)
/-- `INC E` (R223). -/
def execIncE (s : State) : Result := .next (incReg .e s)
/-- `DEC E` (R225). -/
def execDecE (s : State) : Result := .next (decReg .e s)
/-- `INC H` (R223). -/
def execIncH (s : State) : Result := .next (incReg .h s)
/-- `DEC H` (R225). -/
def execDecH (s : State) : Result := .next (decReg .h s)
/-- `DAA` (R227). -/
def execDaa (s : State) : Result := .next (aluDaa s)
/-- `INC L` (R223). -/
def execIncL (s : State) : Result := .next (incReg .l s)
/-- `DEC L` (R225). -/
def execDecL (s : State) : Result := .next (decReg .l s)
/-- `CPL` (R228). -/
def execCpl (s : State) : Result := .next (aluCpl s)
/-- `INC (HL)` (R224). -/
def execIncMHL (s : State) : Result := .next (incMem s)
/-- `DEC (HL)` (R226). -/
def execDecMHL (s : State) : Result := .next (decMem s)
/-- `SCF` (R229). -/
def execScf (s : State) : Result := .next (aluScf s)
/-- `INC A` (R223). -/
def execIncA (s : State) : Result := .next (incReg .a s)
/-- `DEC A` (R225). -/
def execDecA (s : State) : Result := .next (decReg .a s)
/-- `CCF` (R230). -/
def execCcf (s : State) : Result := .next (aluCcf s)
/-- `ADD A,B` (R215). -/
def execAddA_B (s : State) : Result := .next (aluReg aluAdd .b s)
/-- `ADD A,C` (R215). -/
def execAddA_C (s : State) : Result := .next (aluReg aluAdd .c s)
/-- `ADD A,D` (R215). -/
def execAddA_D (s : State) : Result := .next (aluReg aluAdd .d s)
/-- `ADD A,E` (R215). -/
def execAddA_E (s : State) : Result := .next (aluReg aluAdd .e s)
/-- `ADD A,H` (R215). -/
def execAddA_H (s : State) : Result := .next (aluReg aluAdd .h s)
/-- `ADD A,L` (R215). -/
def execAddA_L (s : State) : Result := .next (aluReg aluAdd .l s)
/-- `ADD A,(HL)` (R215). -/
def execAddA_MHL (s : State) : Result := .next (aluMem aluAdd s)
/-- `ADD A,A` (R215). -/
def execAddA_A (s : State) : Result := .next (aluReg aluAdd .a s)
/-- `ADC A,B` (R216). -/
def execAdcA_B (s : State) : Result := .next (aluReg aluAdc .b s)
/-- `ADC A,C` (R216). -/
def execAdcA_C (s : State) : Result := .next (aluReg aluAdc .c s)
/-- `ADC A,D` (R216). -/
def execAdcA_D (s : State) : Result := .next (aluReg aluAdc .d s)
/-- `ADC A,E` (R216). -/
def execAdcA_E (s : State) : Result := .next (aluReg aluAdc .e s)
/-- `ADC A,H` (R216). -/
def execAdcA_H (s : State) : Result := .next (aluReg aluAdc .h s)
/-- `ADC A,L` (R216). -/
def execAdcA_L (s : State) : Result := .next (aluReg aluAdc .l s)
/-- `ADC A,(HL)` (R216). -/
def execAdcA_MHL (s : State) : Result := .next (aluMem aluAdc s)
/-- `ADC A,A` (R216). -/
def execAdcA_A (s : State) : Result := .next (aluReg aluAdc .a s)
/-- `SUB A,B` (R217). -/
def execSubA_B (s : State) : Result := .next (aluReg aluSub .b s)
/-- `SUB A,C` (R217). -/
def execSubA_C (s : State) : Result := .next (aluReg aluSub .c s)
/-- `SUB A,D` (R217). -/
def execSubA_D (s : State) : Result := .next (aluReg aluSub .d s)
/-- `SUB A,E` (R217). -/
def execSubA_E (s : State) : Result := .next (aluReg aluSub .e s)
/-- `SUB A,H` (R217). -/
def execSubA_H (s : State) : Result := .next (aluReg aluSub .h s)
/-- `SUB A,L` (R217). -/
def execSubA_L (s : State) : Result := .next (aluReg aluSub .l s)
/-- `SUB A,(HL)` (R217). -/
def execSubA_MHL (s : State) : Result := .next (aluMem aluSub s)
/-- `SUB A,A` (R217). -/
def execSubA_A (s : State) : Result := .next (aluReg aluSub .a s)
/-- `SBC A,B` (R218). -/
def execSbcA_B (s : State) : Result := .next (aluReg aluSbc .b s)
/-- `SBC A,C` (R218). -/
def execSbcA_C (s : State) : Result := .next (aluReg aluSbc .c s)
/-- `SBC A,D` (R218). -/
def execSbcA_D (s : State) : Result := .next (aluReg aluSbc .d s)
/-- `SBC A,E` (R218). -/
def execSbcA_E (s : State) : Result := .next (aluReg aluSbc .e s)
/-- `SBC A,H` (R218). -/
def execSbcA_H (s : State) : Result := .next (aluReg aluSbc .h s)
/-- `SBC A,L` (R218). -/
def execSbcA_L (s : State) : Result := .next (aluReg aluSbc .l s)
/-- `SBC A,(HL)` (R218). -/
def execSbcA_MHL (s : State) : Result := .next (aluMem aluSbc s)
/-- `SBC A,A` (R218). -/
def execSbcA_A (s : State) : Result := .next (aluReg aluSbc .a s)
/-- `AND A,B` (R219). -/
def execAndA_B (s : State) : Result := .next (aluReg aluAnd .b s)
/-- `AND A,C` (R219). -/
def execAndA_C (s : State) : Result := .next (aluReg aluAnd .c s)
/-- `AND A,D` (R219). -/
def execAndA_D (s : State) : Result := .next (aluReg aluAnd .d s)
/-- `AND A,E` (R219). -/
def execAndA_E (s : State) : Result := .next (aluReg aluAnd .e s)
/-- `AND A,H` (R219). -/
def execAndA_H (s : State) : Result := .next (aluReg aluAnd .h s)
/-- `AND A,L` (R219). -/
def execAndA_L (s : State) : Result := .next (aluReg aluAnd .l s)
/-- `AND A,(HL)` (R219). -/
def execAndA_MHL (s : State) : Result := .next (aluMem aluAnd s)
/-- `AND A,A` (R219). -/
def execAndA_A (s : State) : Result := .next (aluReg aluAnd .a s)
/-- `XOR A,B` (R220). -/
def execXorA_B (s : State) : Result := .next (aluReg aluXor .b s)
/-- `XOR A,C` (R220). -/
def execXorA_C (s : State) : Result := .next (aluReg aluXor .c s)
/-- `XOR A,D` (R220). -/
def execXorA_D (s : State) : Result := .next (aluReg aluXor .d s)
/-- `XOR A,E` (R220). -/
def execXorA_E (s : State) : Result := .next (aluReg aluXor .e s)
/-- `XOR A,H` (R220). -/
def execXorA_H (s : State) : Result := .next (aluReg aluXor .h s)
/-- `XOR A,L` (R220). -/
def execXorA_L (s : State) : Result := .next (aluReg aluXor .l s)
/-- `XOR A,(HL)` (R220). -/
def execXorA_MHL (s : State) : Result := .next (aluMem aluXor s)
/-- `XOR A,A` (R220). -/
def execXorA_A (s : State) : Result := .next (aluReg aluXor .a s)
/-- `OR A,B` (R221). -/
def execOrA_B (s : State) : Result := .next (aluReg aluOr .b s)
/-- `OR A,C` (R221). -/
def execOrA_C (s : State) : Result := .next (aluReg aluOr .c s)
/-- `OR A,D` (R221). -/
def execOrA_D (s : State) : Result := .next (aluReg aluOr .d s)
/-- `OR A,E` (R221). -/
def execOrA_E (s : State) : Result := .next (aluReg aluOr .e s)
/-- `OR A,H` (R221). -/
def execOrA_H (s : State) : Result := .next (aluReg aluOr .h s)
/-- `OR A,L` (R221). -/
def execOrA_L (s : State) : Result := .next (aluReg aluOr .l s)
/-- `OR A,(HL)` (R221). -/
def execOrA_MHL (s : State) : Result := .next (aluMem aluOr s)
/-- `OR A,A` (R221). -/
def execOrA_A (s : State) : Result := .next (aluReg aluOr .a s)
/-- `CP A,B` (R222). -/
def execCpA_B (s : State) : Result := .next (aluReg aluCp .b s)
/-- `CP A,C` (R222). -/
def execCpA_C (s : State) : Result := .next (aluReg aluCp .c s)
/-- `CP A,D` (R222). -/
def execCpA_D (s : State) : Result := .next (aluReg aluCp .d s)
/-- `CP A,E` (R222). -/
def execCpA_E (s : State) : Result := .next (aluReg aluCp .e s)
/-- `CP A,H` (R222). -/
def execCpA_H (s : State) : Result := .next (aluReg aluCp .h s)
/-- `CP A,L` (R222). -/
def execCpA_L (s : State) : Result := .next (aluReg aluCp .l s)
/-- `CP A,(HL)` (R222). -/
def execCpA_MHL (s : State) : Result := .next (aluMem aluCp s)
/-- `CP A,A` (R222). -/
def execCpA_A (s : State) : Result := .next (aluReg aluCp .a s)
/-- `ADD A,n` (R215). -/
def execAddA_n (n : Byte) (s : State) : Result := .next (aluImm aluAdd n s)
/-- `ADC A,n` (R216). -/
def execAdcA_n (n : Byte) (s : State) : Result := .next (aluImm aluAdc n s)
/-- `SUB A,n` (R217). -/
def execSubA_n (n : Byte) (s : State) : Result := .next (aluImm aluSub n s)
/-- `SBC A,n` (R218). -/
def execSbcA_n (n : Byte) (s : State) : Result := .next (aluImm aluSbc n s)
/-- `AND A,n` (R219). -/
def execAndA_n (n : Byte) (s : State) : Result := .next (aluImm aluAnd n s)
/-- `XOR A,n` (R220). -/
def execXorA_n (n : Byte) (s : State) : Result := .next (aluImm aluXor n s)
/-- `OR A,n` (R221). -/
def execOrA_n (n : Byte) (s : State) : Result := .next (aluImm aluOr n s)
/-- `CP A,n` (R222). -/
def execCpA_n (n : Byte) (s : State) : Result := .next (aluImm aluCp n s)

end Sys2Proof.Machine
end

