-- ==== Sys2Proof/Machine/Control.lean ====
section
/-! DEFINITION. The control transfers (45_control.md, R280 to R291). The PC of the state given is that of the next sequential
instruction. No flag is written (R291 (e)). -/

namespace Sys2Proof.Machine

/-- `JP nn` (R280). -/
def jpAlways (nn : Word) (s : State) : State := (s.setPc nn).tick 16

/-- `JP cc,nn` (R281). -/
def jpIf (cc : Cond) (nn : Word) (s : State) : State := if s.cond cc then (s.setPc nn).tick 16 else s.tick 12

/-- `JP HL` (R282). -/
def jpHl (s : State) : State := (s.setPc s.hl).tick 4

/-- `PC <- (PC + sext_16(imm8)) mod 2^16` (R283). -/
def State.jumpBy (s : State) (e : Byte) : State := s.setPc (s.regs.pc + signExtend16 e)

/-- `JR e` (R283). -/
def jrAlways (e : Byte) (s : State) : State := (s.jumpBy e).tick 12

/-- `JR cc,e` (R284). -/
def jrIf (cc : Cond) (e : Byte) (s : State) : State := if s.cond cc then (s.jumpBy e).tick 12 else s.tick 8

/-- `push16(PC); PC <- target` (R285). -/
def State.callTo (s : State) (target : Word) : State := (s.push16 s.regs.pc).setPc target

/-- `CALL nn` (R285). -/
def callAlways (nn : Word) (s : State) : State := (s.callTo nn).tick 24

/-- `CALL cc,nn` (R286). -/
def callIf (cc : Cond) (nn : Word) (s : State) : State := if s.cond cc then (s.callTo nn).tick 24 else s.tick 12

/-- `RET` (R287). -/
def retAlways (s : State) : State := s.popPc.tick 16

/-- `RET cc` (R288). -/
def retIf (cc : Cond) (s : State) : State := if s.cond cc then s.popPc.tick 20 else s.tick 8

/-- `RETI` (R289). -/
def retiAlways (s : State) : State := s.returnFromInterrupt.tick 16

/-- `RST t`: `push16(PC); PC <- zext_16(t) * 8` (R290). -/
def rstTo (t : Nat) (s : State) : State := (s.callTo (BitVec.ofNat 16 t * 8)).tick 16

/-- `JR e` (R283). -/
def execJr_e (e : Byte) (s : State) : Result := .next (jrAlways e s)
/-- `JR NZ,e` (R284). -/
def execJrNZ_e (e : Byte) (s : State) : Result := .next (jrIf .nz e s)
/-- `JR Z,e` (R284). -/
def execJrZ_e (e : Byte) (s : State) : Result := .next (jrIf .z e s)
/-- `JR NC,e` (R284). -/
def execJrNC_e (e : Byte) (s : State) : Result := .next (jrIf .nc e s)
/-- `JR C,e` (R284). -/
def execJrC_e (e : Byte) (s : State) : Result := .next (jrIf .c e s)
/-- `RET NZ` (R288). -/
def execRetNZ (s : State) : Result := .next (retIf .nz s)
/-- `JP NZ,nn` (R281). -/
def execJpNZ_nn (nn : Word) (s : State) : Result := .next (jpIf .nz nn s)
/-- `JP nn` (R280). -/
def execJp_nn (nn : Word) (s : State) : Result := .next (jpAlways nn s)
/-- `CALL NZ,nn` (R286). -/
def execCallNZ_nn (nn : Word) (s : State) : Result := .next (callIf .nz nn s)
/-- `RST 0x00` (R290). -/
def execRst00 (s : State) : Result := .next (rstTo 0 s)
/-- `RET Z` (R288). -/
def execRetZ (s : State) : Result := .next (retIf .z s)
/-- `RET` (R287). -/
def execRet (s : State) : Result := .next (retAlways s)
/-- `JP Z,nn` (R281). -/
def execJpZ_nn (nn : Word) (s : State) : Result := .next (jpIf .z nn s)
/-- `CALL Z,nn` (R286). -/
def execCallZ_nn (nn : Word) (s : State) : Result := .next (callIf .z nn s)
/-- `CALL nn` (R285). -/
def execCall_nn (nn : Word) (s : State) : Result := .next (callAlways nn s)
/-- `RST 0x08` (R290). -/
def execRst08 (s : State) : Result := .next (rstTo 1 s)
/-- `RET NC` (R288). -/
def execRetNC (s : State) : Result := .next (retIf .nc s)
/-- `JP NC,nn` (R281). -/
def execJpNC_nn (nn : Word) (s : State) : Result := .next (jpIf .nc nn s)
/-- `CALL NC,nn` (R286). -/
def execCallNC_nn (nn : Word) (s : State) : Result := .next (callIf .nc nn s)
/-- `RST 0x10` (R290). -/
def execRst10 (s : State) : Result := .next (rstTo 2 s)
/-- `RET C` (R288). -/
def execRetC (s : State) : Result := .next (retIf .c s)
/-- `RETI` (R289). -/
def execReti (s : State) : Result := .next (retiAlways s)
/-- `JP C,nn` (R281). -/
def execJpC_nn (nn : Word) (s : State) : Result := .next (jpIf .c nn s)
/-- `CALL C,nn` (R286). -/
def execCallC_nn (nn : Word) (s : State) : Result := .next (callIf .c nn s)
/-- `RST 0x18` (R290). -/
def execRst18 (s : State) : Result := .next (rstTo 3 s)
/-- `RST 0x20` (R290). -/
def execRst20 (s : State) : Result := .next (rstTo 4 s)
/-- `JP HL` (R282). -/
def execJpHL (s : State) : Result := .next (jpHl s)
/-- `RST 0x28` (R290). -/
def execRst28 (s : State) : Result := .next (rstTo 5 s)
/-- `RST 0x30` (R290). -/
def execRst30 (s : State) : Result := .next (rstTo 6 s)
/-- `RST 0x38` (R290). -/
def execRst38 (s : State) : Result := .next (rstTo 7 s)

end Sys2Proof.Machine
end

