-- ==== Sys2Proof/Machine/Load16.lean ====
section
/-! DEFINITION. The 16-bit loads and the stack instructions (41_load16_stack.md, R200 to R207). -/

namespace Sys2Proof.Machine

/-- `r16[rr] <- imm16` (R200). -/
def ldPairImm (rr : Reg16) (nn : Word) (s : State) : State := (s.setReg16 rr nn).tick 12

/-- `MemWrite(imm16, 2, SP)` (R201). -/
def ldMemSp (nn : Word) (s : State) : State := (s.write16 nn s.regs.sp).tick 20

/-- `SP <- HL` (R202). -/
def ldSpHl (s : State) : State := (s.setSp s.hl).tick 8

/-- `HL <- SP + sext_16(imm8)`, with the flags of R203. -/
def ldHlSpe (e : Byte) (s : State) : State :=
  ((s.setHl (addSigned s.regs.sp e).1).setF (addSigned s.regs.sp e).2).tick 12

/-- `push16(r16s[rr])` (R206). -/
def pushPair (rr : StackPair) (s : State) : State := (s.push16 (s.regs.getStack rr)).tick 16

/-- `r16s[rr] <- pop16()` (R207). -/
def popPair (rr : StackPair) (s : State) : State := (s.dropTop.setStack rr s.top16).tick 12

/-- `LD BC,nn` (R200). -/
def execLdBC_nn (nn : Word) (s : State) : Result := .next (ldPairImm .bc nn s)
/-- `LD (nn),SP` (R201). -/
def execLdMnn_SP (nn : Word) (s : State) : Result := .next (ldMemSp nn s)
/-- `LD DE,nn` (R200). -/
def execLdDE_nn (nn : Word) (s : State) : Result := .next (ldPairImm .de nn s)
/-- `LD HL,nn` (R200). -/
def execLdHL_nn (nn : Word) (s : State) : Result := .next (ldPairImm .hl nn s)
/-- `LD SP,nn` (R200). -/
def execLdSP_nn (nn : Word) (s : State) : Result := .next (ldPairImm .sp nn s)
/-- `POP BC` (R207). -/
def execPopBC (s : State) : Result := .next (popPair .bc s)
/-- `PUSH BC` (R206). -/
def execPushBC (s : State) : Result := .next (pushPair .bc s)
/-- `POP DE` (R207). -/
def execPopDE (s : State) : Result := .next (popPair .de s)
/-- `PUSH DE` (R206). -/
def execPushDE (s : State) : Result := .next (pushPair .de s)
/-- `POP HL` (R207). -/
def execPopHL (s : State) : Result := .next (popPair .hl s)
/-- `PUSH HL` (R206). -/
def execPushHL (s : State) : Result := .next (pushPair .hl s)
/-- `POP AF` (R207). -/
def execPopAF (s : State) : Result := .next (popPair .af s)
/-- `PUSH AF` (R206). -/
def execPushAF (s : State) : Result := .next (pushPair .af s)
/-- `LD HL,SP+e` (R203). -/
def execLdHL_SPe (e : Byte) (s : State) : Result := .next (ldHlSpe e s)
/-- `LD SP,HL` (R202). -/
def execLdSP_HL (s : State) : Result := .next (ldSpHl s)

end Sys2Proof.Machine
end

