-- ==== Sys2Proof/Machine/Load8.lean ====
section
/-! DEFINITION. The 8-bit loads (40_load8.md, R170 to R190). No flag is read or written (R190). -/

namespace Sys2Proof.Machine

/-- `r8[dst] <- r8[src]` (R170). -/
def ldRegReg (dst src : Reg8) (s : State) : State := (s.setReg dst (s.reg src)).tick 4

/-- `r8[dst] <- imm8` (R171). -/
def ldRegImm (dst : Reg8) (n : Byte) (s : State) : State := (s.setReg dst n).tick 8

/-- `r8[dst] <- MemRead(HL, 1)` (R172). -/
def ldRegMem (dst : Reg8) (s : State) : State := (s.setReg dst (s.read s.hl)).tick 8

/-- `MemWrite(HL, 1, r8[src])` (R173). -/
def ldMemReg (src : Reg8) (s : State) : State := (s.write s.hl (s.reg src)).tick 8

/-- `MemWrite(HL, 1, imm8)` (R174). -/
def ldMemImm (n : Byte) (s : State) : State := (s.write s.hl n).tick 12

/-- `A <- MemRead(addr, 1)` (R175, R176, R179, R181, R183). -/
def loadA (addr : Word) (cycles : Nat) (s : State) : State := (s.setA (s.read addr)).tick cycles

/-- `MemWrite(addr, 1, A)` (R177, R178, R180, R182, R184). -/
def storeA (addr : Word) (cycles : Nat) (s : State) : State := (s.write addr s.regs.a).tick cycles

/-- `A <- MemRead(HL, 1); HL <- HL + delta` (R186, R188). -/
def loadAHl (delta : Word) (s : State) : State := ((s.setA (s.read s.hl)).setHl (s.hl + delta)).tick 8

/-- `MemWrite(HL, 1, A); HL <- HL + delta` (R185, R187). -/
def storeAHl (delta : Word) (s : State) : State := ((s.write s.hl s.regs.a).setHl (s.hl + delta)).tick 8

/-- `LD (BC),A` (R177). -/
def execLdMBC_A (s : State) : Result := .next (storeA (s.reg16 .bc) 8 s)
/-- `LD B,n` (R171). -/
def execLdB_n (n : Byte) (s : State) : Result := .next (ldRegImm .b n s)
/-- `LD A,(BC)` (R175). -/
def execLdA_MBC (s : State) : Result := .next (loadA (s.reg16 .bc) 8 s)
/-- `LD C,n` (R171). -/
def execLdC_n (n : Byte) (s : State) : Result := .next (ldRegImm .c n s)
/-- `LD (DE),A` (R178). -/
def execLdMDE_A (s : State) : Result := .next (storeA (s.reg16 .de) 8 s)
/-- `LD D,n` (R171). -/
def execLdD_n (n : Byte) (s : State) : Result := .next (ldRegImm .d n s)
/-- `LD A,(DE)` (R176). -/
def execLdA_MDE (s : State) : Result := .next (loadA (s.reg16 .de) 8 s)
/-- `LD E,n` (R171). -/
def execLdE_n (n : Byte) (s : State) : Result := .next (ldRegImm .e n s)
/-- `LD (HL+),A` (R185). -/
def execLdMHLinc_A (s : State) : Result := .next (storeAHl 1 s)
/-- `LD H,n` (R171). -/
def execLdH_n (n : Byte) (s : State) : Result := .next (ldRegImm .h n s)
/-- `LD A,(HL+)` (R186). -/
def execLdA_MHLinc (s : State) : Result := .next (loadAHl 1 s)
/-- `LD L,n` (R171). -/
def execLdL_n (n : Byte) (s : State) : Result := .next (ldRegImm .l n s)
/-- `LD (HL-),A` (R187). -/
def execLdMHLdec_A (s : State) : Result := .next (storeAHl (-1) s)
/-- `LD (HL),n` (R174). -/
def execLdMHL_n (n : Byte) (s : State) : Result := .next (ldMemImm n s)
/-- `LD A,(HL-)` (R188). -/
def execLdA_MHLdec (s : State) : Result := .next (loadAHl (-1) s)
/-- `LD A,n` (R171). -/
def execLdA_n (n : Byte) (s : State) : Result := .next (ldRegImm .a n s)
/-- `LD B,B` (R170). -/
def execLdB_B (s : State) : Result := .next (ldRegReg .b .b s)
/-- `LD B,C` (R170). -/
def execLdB_C (s : State) : Result := .next (ldRegReg .b .c s)
/-- `LD B,D` (R170). -/
def execLdB_D (s : State) : Result := .next (ldRegReg .b .d s)
/-- `LD B,E` (R170). -/
def execLdB_E (s : State) : Result := .next (ldRegReg .b .e s)
/-- `LD B,H` (R170). -/
def execLdB_H (s : State) : Result := .next (ldRegReg .b .h s)
/-- `LD B,L` (R170). -/
def execLdB_L (s : State) : Result := .next (ldRegReg .b .l s)
/-- `LD B,(HL)` (R172). -/
def execLdB_MHL (s : State) : Result := .next (ldRegMem .b s)
/-- `LD B,A` (R170). -/
def execLdB_A (s : State) : Result := .next (ldRegReg .b .a s)
/-- `LD C,B` (R170). -/
def execLdC_B (s : State) : Result := .next (ldRegReg .c .b s)
/-- `LD C,C` (R170). -/
def execLdC_C (s : State) : Result := .next (ldRegReg .c .c s)
/-- `LD C,D` (R170). -/
def execLdC_D (s : State) : Result := .next (ldRegReg .c .d s)
/-- `LD C,E` (R170). -/
def execLdC_E (s : State) : Result := .next (ldRegReg .c .e s)
/-- `LD C,H` (R170). -/
def execLdC_H (s : State) : Result := .next (ldRegReg .c .h s)
/-- `LD C,L` (R170). -/
def execLdC_L (s : State) : Result := .next (ldRegReg .c .l s)
/-- `LD C,(HL)` (R172). -/
def execLdC_MHL (s : State) : Result := .next (ldRegMem .c s)
/-- `LD C,A` (R170). -/
def execLdC_A (s : State) : Result := .next (ldRegReg .c .a s)
/-- `LD D,B` (R170). -/
def execLdD_B (s : State) : Result := .next (ldRegReg .d .b s)
/-- `LD D,C` (R170). -/
def execLdD_C (s : State) : Result := .next (ldRegReg .d .c s)
/-- `LD D,D` (R170). -/
def execLdD_D (s : State) : Result := .next (ldRegReg .d .d s)
/-- `LD D,E` (R170). -/
def execLdD_E (s : State) : Result := .next (ldRegReg .d .e s)
/-- `LD D,H` (R170). -/
def execLdD_H (s : State) : Result := .next (ldRegReg .d .h s)
/-- `LD D,L` (R170). -/
def execLdD_L (s : State) : Result := .next (ldRegReg .d .l s)
/-- `LD D,(HL)` (R172). -/
def execLdD_MHL (s : State) : Result := .next (ldRegMem .d s)
/-- `LD D,A` (R170). -/
def execLdD_A (s : State) : Result := .next (ldRegReg .d .a s)
/-- `LD E,B` (R170). -/
def execLdE_B (s : State) : Result := .next (ldRegReg .e .b s)
/-- `LD E,C` (R170). -/
def execLdE_C (s : State) : Result := .next (ldRegReg .e .c s)
/-- `LD E,D` (R170). -/
def execLdE_D (s : State) : Result := .next (ldRegReg .e .d s)
/-- `LD E,E` (R170). -/
def execLdE_E (s : State) : Result := .next (ldRegReg .e .e s)
/-- `LD E,H` (R170). -/
def execLdE_H (s : State) : Result := .next (ldRegReg .e .h s)
/-- `LD E,L` (R170). -/
def execLdE_L (s : State) : Result := .next (ldRegReg .e .l s)
/-- `LD E,(HL)` (R172). -/
def execLdE_MHL (s : State) : Result := .next (ldRegMem .e s)
/-- `LD E,A` (R170). -/
def execLdE_A (s : State) : Result := .next (ldRegReg .e .a s)
/-- `LD H,B` (R170). -/
def execLdH_B (s : State) : Result := .next (ldRegReg .h .b s)
/-- `LD H,C` (R170). -/
def execLdH_C (s : State) : Result := .next (ldRegReg .h .c s)
/-- `LD H,D` (R170). -/
def execLdH_D (s : State) : Result := .next (ldRegReg .h .d s)
/-- `LD H,E` (R170). -/
def execLdH_E (s : State) : Result := .next (ldRegReg .h .e s)
/-- `LD H,H` (R170). -/
def execLdH_H (s : State) : Result := .next (ldRegReg .h .h s)
/-- `LD H,L` (R170). -/
def execLdH_L (s : State) : Result := .next (ldRegReg .h .l s)
/-- `LD H,(HL)` (R172). -/
def execLdH_MHL (s : State) : Result := .next (ldRegMem .h s)
/-- `LD H,A` (R170). -/
def execLdH_A (s : State) : Result := .next (ldRegReg .h .a s)
/-- `LD L,B` (R170). -/
def execLdL_B (s : State) : Result := .next (ldRegReg .l .b s)
/-- `LD L,C` (R170). -/
def execLdL_C (s : State) : Result := .next (ldRegReg .l .c s)
/-- `LD L,D` (R170). -/
def execLdL_D (s : State) : Result := .next (ldRegReg .l .d s)
/-- `LD L,E` (R170). -/
def execLdL_E (s : State) : Result := .next (ldRegReg .l .e s)
/-- `LD L,H` (R170). -/
def execLdL_H (s : State) : Result := .next (ldRegReg .l .h s)
/-- `LD L,L` (R170). -/
def execLdL_L (s : State) : Result := .next (ldRegReg .l .l s)
/-- `LD L,(HL)` (R172). -/
def execLdL_MHL (s : State) : Result := .next (ldRegMem .l s)
/-- `LD L,A` (R170). -/
def execLdL_A (s : State) : Result := .next (ldRegReg .l .a s)
/-- `LD (HL),B` (R173). -/
def execLdMHL_B (s : State) : Result := .next (ldMemReg .b s)
/-- `LD (HL),C` (R173). -/
def execLdMHL_C (s : State) : Result := .next (ldMemReg .c s)
/-- `LD (HL),D` (R173). -/
def execLdMHL_D (s : State) : Result := .next (ldMemReg .d s)
/-- `LD (HL),E` (R173). -/
def execLdMHL_E (s : State) : Result := .next (ldMemReg .e s)
/-- `LD (HL),H` (R173). -/
def execLdMHL_H (s : State) : Result := .next (ldMemReg .h s)
/-- `LD (HL),L` (R173). -/
def execLdMHL_L (s : State) : Result := .next (ldMemReg .l s)
/-- `LD (HL),A` (R173). -/
def execLdMHL_A (s : State) : Result := .next (ldMemReg .a s)
/-- `LD A,B` (R170). -/
def execLdA_B (s : State) : Result := .next (ldRegReg .a .b s)
/-- `LD A,C` (R170). -/
def execLdA_C (s : State) : Result := .next (ldRegReg .a .c s)
/-- `LD A,D` (R170). -/
def execLdA_D (s : State) : Result := .next (ldRegReg .a .d s)
/-- `LD A,E` (R170). -/
def execLdA_E (s : State) : Result := .next (ldRegReg .a .e s)
/-- `LD A,H` (R170). -/
def execLdA_H (s : State) : Result := .next (ldRegReg .a .h s)
/-- `LD A,L` (R170). -/
def execLdA_L (s : State) : Result := .next (ldRegReg .a .l s)
/-- `LD A,(HL)` (R172). -/
def execLdA_MHL (s : State) : Result := .next (ldRegMem .a s)
/-- `LD A,A` (R170). -/
def execLdA_A (s : State) : Result := .next (ldRegReg .a .a s)
/-- `LDH (n),A` (R182). -/
def execLdhMn_A (n : Byte) (s : State) : Result := .next (storeA (highPage n) 12 s)
/-- `LD (C),A` (R184). -/
def execLdMC_A (s : State) : Result := .next (storeA (highPage s.regs.c) 8 s)
/-- `LD (nn),A` (R180). -/
def execLdMnn_A (nn : Word) (s : State) : Result := .next (storeA nn 16 s)
/-- `LDH A,(n)` (R181). -/
def execLdhA_Mn (n : Byte) (s : State) : Result := .next (loadA (highPage n) 12 s)
/-- `LD A,(C)` (R183). -/
def execLdA_MC (s : State) : Result := .next (loadA (highPage s.regs.c) 8 s)
/-- `LD A,(nn)` (R179). -/
def execLdA_Mnn (nn : Word) (s : State) : Result := .next (loadA nn 16 s)

end Sys2Proof.Machine
end

