-- ==== Sys2Proof/Machine/RotShiftBit.lean ====
section
/-! DEFINITION. The rotate, shift and bit instructions (44_rotate_shift_bit.md, R250 to R265). -/

namespace Sys2Proof.Machine

/-- A rotate or shift by one: from a byte and the old Cf, the new byte and the bit moved out. -/
abbrev RotFn := Byte → Bool → Byte × Bool

/-- The accumulator rotates: Z always cleared (R250 to R253). -/
def rotAcc (f : RotFn) (s : State) : State :=
  let r := f s.regs.a (flagC s.regs.f)
  ((s.setA r.1).setF (accRotFlags r.2)).tick 4

/-- A CB-prefixed rotate or shift of a register (R254 to R262). -/
def rotReg (f : RotFn) (i : Reg8) (s : State) : State :=
  let r := f (s.reg i) (flagC s.regs.f)
  ((s.setReg i r.1).setF (rotFlags r.1 r.2)).tick 8

/-- A CB-prefixed rotate or shift of the byte at HL: read, then write; the flags follow the value computed (R254). -/
def rotMem (f : RotFn) (s : State) : State :=
  let r := f (s.read s.hl) (flagC s.regs.f)
  ((s.write s.hl r.1).setF (rotFlags r.1 r.2)).tick 16

/-- `BIT b,r` (R263). -/
def bitReg (b : Nat) (i : Reg8) (s : State) : State := (s.setF (bitFlags s.regs.f (s.reg i) b)).tick 8

/-- `BIT b,(HL)`: a read and no write (R263). -/
def bitMem (b : Nat) (s : State) : State := (s.setF (bitFlags s.regs.f (s.read s.hl) b)).tick 12

/-- `RES b,r` and `SET b,r` (R264, R265). -/
def editReg (f : Byte → Nat → Byte) (b : Nat) (i : Reg8) (s : State) : State := (s.setReg i (f (s.reg i) b)).tick 8

/-- `RES b,(HL)` and `SET b,(HL)`: the read and the write both happen (R264, R265). -/
def editMem (f : Byte → Nat → Byte) (b : Nat) (s : State) : State := (s.write s.hl (f (s.read s.hl) b)).tick 16

/-- `RLCA` (R250). -/
def execRlca (s : State) : Result := .next (rotAcc rotLeft s)
/-- `RRCA` (R252). -/
def execRrca (s : State) : Result := .next (rotAcc rotRight s)
/-- `RLA` (R251). -/
def execRla (s : State) : Result := .next (rotAcc rotLeftCarry s)
/-- `RRA` (R253). -/
def execRra (s : State) : Result := .next (rotAcc rotRightCarry s)
/-- `RLC B` (R255). -/
def execRlcB (s : State) : Result := .next (rotReg rotLeft .b s)
/-- `RLC C` (R255). -/
def execRlcC (s : State) : Result := .next (rotReg rotLeft .c s)
/-- `RLC D` (R255). -/
def execRlcD (s : State) : Result := .next (rotReg rotLeft .d s)
/-- `RLC E` (R255). -/
def execRlcE (s : State) : Result := .next (rotReg rotLeft .e s)
/-- `RLC H` (R255). -/
def execRlcH (s : State) : Result := .next (rotReg rotLeft .h s)
/-- `RLC L` (R255). -/
def execRlcL (s : State) : Result := .next (rotReg rotLeft .l s)
/-- `RLC (HL)` (R255). -/
def execRlcMHL (s : State) : Result := .next (rotMem rotLeft s)
/-- `RLC A` (R255). -/
def execRlcA (s : State) : Result := .next (rotReg rotLeft .a s)
/-- `RRC B` (R256). -/
def execRrcB (s : State) : Result := .next (rotReg rotRight .b s)
/-- `RRC C` (R256). -/
def execRrcC (s : State) : Result := .next (rotReg rotRight .c s)
/-- `RRC D` (R256). -/
def execRrcD (s : State) : Result := .next (rotReg rotRight .d s)
/-- `RRC E` (R256). -/
def execRrcE (s : State) : Result := .next (rotReg rotRight .e s)
/-- `RRC H` (R256). -/
def execRrcH (s : State) : Result := .next (rotReg rotRight .h s)
/-- `RRC L` (R256). -/
def execRrcL (s : State) : Result := .next (rotReg rotRight .l s)
/-- `RRC (HL)` (R256). -/
def execRrcMHL (s : State) : Result := .next (rotMem rotRight s)
/-- `RRC A` (R256). -/
def execRrcA (s : State) : Result := .next (rotReg rotRight .a s)
/-- `RL B` (R257). -/
def execRl_B (s : State) : Result := .next (rotReg rotLeftCarry .b s)
/-- `RL C` (R257). -/
def execRl_C (s : State) : Result := .next (rotReg rotLeftCarry .c s)
/-- `RL D` (R257). -/
def execRl_D (s : State) : Result := .next (rotReg rotLeftCarry .d s)
/-- `RL E` (R257). -/
def execRl_E (s : State) : Result := .next (rotReg rotLeftCarry .e s)
/-- `RL H` (R257). -/
def execRl_H (s : State) : Result := .next (rotReg rotLeftCarry .h s)
/-- `RL L` (R257). -/
def execRl_L (s : State) : Result := .next (rotReg rotLeftCarry .l s)
/-- `RL (HL)` (R257). -/
def execRl_MHL (s : State) : Result := .next (rotMem rotLeftCarry s)
/-- `RL A` (R257). -/
def execRl_A (s : State) : Result := .next (rotReg rotLeftCarry .a s)
/-- `RR B` (R258). -/
def execRr_B (s : State) : Result := .next (rotReg rotRightCarry .b s)
/-- `RR C` (R258). -/
def execRr_C (s : State) : Result := .next (rotReg rotRightCarry .c s)
/-- `RR D` (R258). -/
def execRr_D (s : State) : Result := .next (rotReg rotRightCarry .d s)
/-- `RR E` (R258). -/
def execRr_E (s : State) : Result := .next (rotReg rotRightCarry .e s)
/-- `RR H` (R258). -/
def execRr_H (s : State) : Result := .next (rotReg rotRightCarry .h s)
/-- `RR L` (R258). -/
def execRr_L (s : State) : Result := .next (rotReg rotRightCarry .l s)
/-- `RR (HL)` (R258). -/
def execRr_MHL (s : State) : Result := .next (rotMem rotRightCarry s)
/-- `RR A` (R258). -/
def execRr_A (s : State) : Result := .next (rotReg rotRightCarry .a s)
/-- `SLA B` (R259). -/
def execSlaB (s : State) : Result := .next (rotReg shiftLeft .b s)
/-- `SLA C` (R259). -/
def execSlaC (s : State) : Result := .next (rotReg shiftLeft .c s)
/-- `SLA D` (R259). -/
def execSlaD (s : State) : Result := .next (rotReg shiftLeft .d s)
/-- `SLA E` (R259). -/
def execSlaE (s : State) : Result := .next (rotReg shiftLeft .e s)
/-- `SLA H` (R259). -/
def execSlaH (s : State) : Result := .next (rotReg shiftLeft .h s)
/-- `SLA L` (R259). -/
def execSlaL (s : State) : Result := .next (rotReg shiftLeft .l s)
/-- `SLA (HL)` (R259). -/
def execSlaMHL (s : State) : Result := .next (rotMem shiftLeft s)
/-- `SLA A` (R259). -/
def execSlaA (s : State) : Result := .next (rotReg shiftLeft .a s)
/-- `SRA B` (R260). -/
def execSraB (s : State) : Result := .next (rotReg shiftRightArith .b s)
/-- `SRA C` (R260). -/
def execSraC (s : State) : Result := .next (rotReg shiftRightArith .c s)
/-- `SRA D` (R260). -/
def execSraD (s : State) : Result := .next (rotReg shiftRightArith .d s)
/-- `SRA E` (R260). -/
def execSraE (s : State) : Result := .next (rotReg shiftRightArith .e s)
/-- `SRA H` (R260). -/
def execSraH (s : State) : Result := .next (rotReg shiftRightArith .h s)
/-- `SRA L` (R260). -/
def execSraL (s : State) : Result := .next (rotReg shiftRightArith .l s)
/-- `SRA (HL)` (R260). -/
def execSraMHL (s : State) : Result := .next (rotMem shiftRightArith s)
/-- `SRA A` (R260). -/
def execSraA (s : State) : Result := .next (rotReg shiftRightArith .a s)
/-- `SWAP B` (R261). -/
def execSwapB (s : State) : Result := .next (rotReg swapNibbles .b s)
/-- `SWAP C` (R261). -/
def execSwapC (s : State) : Result := .next (rotReg swapNibbles .c s)
/-- `SWAP D` (R261). -/
def execSwapD (s : State) : Result := .next (rotReg swapNibbles .d s)
/-- `SWAP E` (R261). -/
def execSwapE (s : State) : Result := .next (rotReg swapNibbles .e s)
/-- `SWAP H` (R261). -/
def execSwapH (s : State) : Result := .next (rotReg swapNibbles .h s)
/-- `SWAP L` (R261). -/
def execSwapL (s : State) : Result := .next (rotReg swapNibbles .l s)
/-- `SWAP (HL)` (R261). -/
def execSwapMHL (s : State) : Result := .next (rotMem swapNibbles s)
/-- `SWAP A` (R261). -/
def execSwapA (s : State) : Result := .next (rotReg swapNibbles .a s)
/-- `SRL B` (R262). -/
def execSrlB (s : State) : Result := .next (rotReg shiftRight .b s)
/-- `SRL C` (R262). -/
def execSrlC (s : State) : Result := .next (rotReg shiftRight .c s)
/-- `SRL D` (R262). -/
def execSrlD (s : State) : Result := .next (rotReg shiftRight .d s)
/-- `SRL E` (R262). -/
def execSrlE (s : State) : Result := .next (rotReg shiftRight .e s)
/-- `SRL H` (R262). -/
def execSrlH (s : State) : Result := .next (rotReg shiftRight .h s)
/-- `SRL L` (R262). -/
def execSrlL (s : State) : Result := .next (rotReg shiftRight .l s)
/-- `SRL (HL)` (R262). -/
def execSrlMHL (s : State) : Result := .next (rotMem shiftRight s)
/-- `SRL A` (R262). -/
def execSrlA (s : State) : Result := .next (rotReg shiftRight .a s)
/-- `BIT 0,B` (R263). -/
def execBit0_B (s : State) : Result := .next (bitReg 0 .b s)
/-- `BIT 0,C` (R263). -/
def execBit0_C (s : State) : Result := .next (bitReg 0 .c s)
/-- `BIT 0,D` (R263). -/
def execBit0_D (s : State) : Result := .next (bitReg 0 .d s)
/-- `BIT 0,E` (R263). -/
def execBit0_E (s : State) : Result := .next (bitReg 0 .e s)
/-- `BIT 0,H` (R263). -/
def execBit0_H (s : State) : Result := .next (bitReg 0 .h s)
/-- `BIT 0,L` (R263). -/
def execBit0_L (s : State) : Result := .next (bitReg 0 .l s)
/-- `BIT 0,(HL)` (R263). -/
def execBit0_MHL (s : State) : Result := .next (bitMem 0 s)
/-- `BIT 0,A` (R263). -/
def execBit0_A (s : State) : Result := .next (bitReg 0 .a s)
/-- `BIT 1,B` (R263). -/
def execBit1_B (s : State) : Result := .next (bitReg 1 .b s)
/-- `BIT 1,C` (R263). -/
def execBit1_C (s : State) : Result := .next (bitReg 1 .c s)
/-- `BIT 1,D` (R263). -/
def execBit1_D (s : State) : Result := .next (bitReg 1 .d s)
/-- `BIT 1,E` (R263). -/
def execBit1_E (s : State) : Result := .next (bitReg 1 .e s)
/-- `BIT 1,H` (R263). -/
def execBit1_H (s : State) : Result := .next (bitReg 1 .h s)
/-- `BIT 1,L` (R263). -/
def execBit1_L (s : State) : Result := .next (bitReg 1 .l s)
/-- `BIT 1,(HL)` (R263). -/
def execBit1_MHL (s : State) : Result := .next (bitMem 1 s)
/-- `BIT 1,A` (R263). -/
def execBit1_A (s : State) : Result := .next (bitReg 1 .a s)
/-- `BIT 2,B` (R263). -/
def execBit2_B (s : State) : Result := .next (bitReg 2 .b s)
/-- `BIT 2,C` (R263). -/
def execBit2_C (s : State) : Result := .next (bitReg 2 .c s)
/-- `BIT 2,D` (R263). -/
def execBit2_D (s : State) : Result := .next (bitReg 2 .d s)
/-- `BIT 2,E` (R263). -/
def execBit2_E (s : State) : Result := .next (bitReg 2 .e s)
/-- `BIT 2,H` (R263). -/
def execBit2_H (s : State) : Result := .next (bitReg 2 .h s)
/-- `BIT 2,L` (R263). -/
def execBit2_L (s : State) : Result := .next (bitReg 2 .l s)
/-- `BIT 2,(HL)` (R263). -/
def execBit2_MHL (s : State) : Result := .next (bitMem 2 s)
/-- `BIT 2,A` (R263). -/
def execBit2_A (s : State) : Result := .next (bitReg 2 .a s)
/-- `BIT 3,B` (R263). -/
def execBit3_B (s : State) : Result := .next (bitReg 3 .b s)
/-- `BIT 3,C` (R263). -/
def execBit3_C (s : State) : Result := .next (bitReg 3 .c s)
/-- `BIT 3,D` (R263). -/
def execBit3_D (s : State) : Result := .next (bitReg 3 .d s)
/-- `BIT 3,E` (R263). -/
def execBit3_E (s : State) : Result := .next (bitReg 3 .e s)
/-- `BIT 3,H` (R263). -/
def execBit3_H (s : State) : Result := .next (bitReg 3 .h s)
/-- `BIT 3,L` (R263). -/
def execBit3_L (s : State) : Result := .next (bitReg 3 .l s)
/-- `BIT 3,(HL)` (R263). -/
def execBit3_MHL (s : State) : Result := .next (bitMem 3 s)
/-- `BIT 3,A` (R263). -/
def execBit3_A (s : State) : Result := .next (bitReg 3 .a s)
/-- `BIT 4,B` (R263). -/
def execBit4_B (s : State) : Result := .next (bitReg 4 .b s)
/-- `BIT 4,C` (R263). -/
def execBit4_C (s : State) : Result := .next (bitReg 4 .c s)
/-- `BIT 4,D` (R263). -/
def execBit4_D (s : State) : Result := .next (bitReg 4 .d s)
/-- `BIT 4,E` (R263). -/
def execBit4_E (s : State) : Result := .next (bitReg 4 .e s)
/-- `BIT 4,H` (R263). -/
def execBit4_H (s : State) : Result := .next (bitReg 4 .h s)
/-- `BIT 4,L` (R263). -/
def execBit4_L (s : State) : Result := .next (bitReg 4 .l s)
/-- `BIT 4,(HL)` (R263). -/
def execBit4_MHL (s : State) : Result := .next (bitMem 4 s)
/-- `BIT 4,A` (R263). -/
def execBit4_A (s : State) : Result := .next (bitReg 4 .a s)
/-- `BIT 5,B` (R263). -/
def execBit5_B (s : State) : Result := .next (bitReg 5 .b s)
/-- `BIT 5,C` (R263). -/
def execBit5_C (s : State) : Result := .next (bitReg 5 .c s)
/-- `BIT 5,D` (R263). -/
def execBit5_D (s : State) : Result := .next (bitReg 5 .d s)
/-- `BIT 5,E` (R263). -/
def execBit5_E (s : State) : Result := .next (bitReg 5 .e s)
/-- `BIT 5,H` (R263). -/
def execBit5_H (s : State) : Result := .next (bitReg 5 .h s)
/-- `BIT 5,L` (R263). -/
def execBit5_L (s : State) : Result := .next (bitReg 5 .l s)
/-- `BIT 5,(HL)` (R263). -/
def execBit5_MHL (s : State) : Result := .next (bitMem 5 s)
/-- `BIT 5,A` (R263). -/
def execBit5_A (s : State) : Result := .next (bitReg 5 .a s)
/-- `BIT 6,B` (R263). -/
def execBit6_B (s : State) : Result := .next (bitReg 6 .b s)
/-- `BIT 6,C` (R263). -/
def execBit6_C (s : State) : Result := .next (bitReg 6 .c s)
/-- `BIT 6,D` (R263). -/
def execBit6_D (s : State) : Result := .next (bitReg 6 .d s)
/-- `BIT 6,E` (R263). -/
def execBit6_E (s : State) : Result := .next (bitReg 6 .e s)
/-- `BIT 6,H` (R263). -/
def execBit6_H (s : State) : Result := .next (bitReg 6 .h s)
/-- `BIT 6,L` (R263). -/
def execBit6_L (s : State) : Result := .next (bitReg 6 .l s)
/-- `BIT 6,(HL)` (R263). -/
def execBit6_MHL (s : State) : Result := .next (bitMem 6 s)
/-- `BIT 6,A` (R263). -/
def execBit6_A (s : State) : Result := .next (bitReg 6 .a s)
/-- `BIT 7,B` (R263). -/
def execBit7_B (s : State) : Result := .next (bitReg 7 .b s)
/-- `BIT 7,C` (R263). -/
def execBit7_C (s : State) : Result := .next (bitReg 7 .c s)
/-- `BIT 7,D` (R263). -/
def execBit7_D (s : State) : Result := .next (bitReg 7 .d s)
/-- `BIT 7,E` (R263). -/
def execBit7_E (s : State) : Result := .next (bitReg 7 .e s)
/-- `BIT 7,H` (R263). -/
def execBit7_H (s : State) : Result := .next (bitReg 7 .h s)
/-- `BIT 7,L` (R263). -/
def execBit7_L (s : State) : Result := .next (bitReg 7 .l s)
/-- `BIT 7,(HL)` (R263). -/
def execBit7_MHL (s : State) : Result := .next (bitMem 7 s)
/-- `BIT 7,A` (R263). -/
def execBit7_A (s : State) : Result := .next (bitReg 7 .a s)
/-- `RES 0,B` (R264). -/
def execRes0_B (s : State) : Result := .next (editReg clearBit 0 .b s)
/-- `RES 0,C` (R264). -/
def execRes0_C (s : State) : Result := .next (editReg clearBit 0 .c s)
/-- `RES 0,D` (R264). -/
def execRes0_D (s : State) : Result := .next (editReg clearBit 0 .d s)
/-- `RES 0,E` (R264). -/
def execRes0_E (s : State) : Result := .next (editReg clearBit 0 .e s)
/-- `RES 0,H` (R264). -/
def execRes0_H (s : State) : Result := .next (editReg clearBit 0 .h s)
/-- `RES 0,L` (R264). -/
def execRes0_L (s : State) : Result := .next (editReg clearBit 0 .l s)
/-- `RES 0,(HL)` (R264). -/
def execRes0_MHL (s : State) : Result := .next (editMem clearBit 0 s)
/-- `RES 0,A` (R264). -/
def execRes0_A (s : State) : Result := .next (editReg clearBit 0 .a s)
/-- `RES 1,B` (R264). -/
def execRes1_B (s : State) : Result := .next (editReg clearBit 1 .b s)
/-- `RES 1,C` (R264). -/
def execRes1_C (s : State) : Result := .next (editReg clearBit 1 .c s)
/-- `RES 1,D` (R264). -/
def execRes1_D (s : State) : Result := .next (editReg clearBit 1 .d s)
/-- `RES 1,E` (R264). -/
def execRes1_E (s : State) : Result := .next (editReg clearBit 1 .e s)
/-- `RES 1,H` (R264). -/
def execRes1_H (s : State) : Result := .next (editReg clearBit 1 .h s)
/-- `RES 1,L` (R264). -/
def execRes1_L (s : State) : Result := .next (editReg clearBit 1 .l s)
/-- `RES 1,(HL)` (R264). -/
def execRes1_MHL (s : State) : Result := .next (editMem clearBit 1 s)
/-- `RES 1,A` (R264). -/
def execRes1_A (s : State) : Result := .next (editReg clearBit 1 .a s)
/-- `RES 2,B` (R264). -/
def execRes2_B (s : State) : Result := .next (editReg clearBit 2 .b s)
/-- `RES 2,C` (R264). -/
def execRes2_C (s : State) : Result := .next (editReg clearBit 2 .c s)
/-- `RES 2,D` (R264). -/
def execRes2_D (s : State) : Result := .next (editReg clearBit 2 .d s)
/-- `RES 2,E` (R264). -/
def execRes2_E (s : State) : Result := .next (editReg clearBit 2 .e s)
/-- `RES 2,H` (R264). -/
def execRes2_H (s : State) : Result := .next (editReg clearBit 2 .h s)
/-- `RES 2,L` (R264). -/
def execRes2_L (s : State) : Result := .next (editReg clearBit 2 .l s)
/-- `RES 2,(HL)` (R264). -/
def execRes2_MHL (s : State) : Result := .next (editMem clearBit 2 s)
/-- `RES 2,A` (R264). -/
def execRes2_A (s : State) : Result := .next (editReg clearBit 2 .a s)
/-- `RES 3,B` (R264). -/
def execRes3_B (s : State) : Result := .next (editReg clearBit 3 .b s)
/-- `RES 3,C` (R264). -/
def execRes3_C (s : State) : Result := .next (editReg clearBit 3 .c s)
/-- `RES 3,D` (R264). -/
def execRes3_D (s : State) : Result := .next (editReg clearBit 3 .d s)
/-- `RES 3,E` (R264). -/
def execRes3_E (s : State) : Result := .next (editReg clearBit 3 .e s)
/-- `RES 3,H` (R264). -/
def execRes3_H (s : State) : Result := .next (editReg clearBit 3 .h s)
/-- `RES 3,L` (R264). -/
def execRes3_L (s : State) : Result := .next (editReg clearBit 3 .l s)
/-- `RES 3,(HL)` (R264). -/
def execRes3_MHL (s : State) : Result := .next (editMem clearBit 3 s)
/-- `RES 3,A` (R264). -/
def execRes3_A (s : State) : Result := .next (editReg clearBit 3 .a s)
/-- `RES 4,B` (R264). -/
def execRes4_B (s : State) : Result := .next (editReg clearBit 4 .b s)
/-- `RES 4,C` (R264). -/
def execRes4_C (s : State) : Result := .next (editReg clearBit 4 .c s)
/-- `RES 4,D` (R264). -/
def execRes4_D (s : State) : Result := .next (editReg clearBit 4 .d s)
/-- `RES 4,E` (R264). -/
def execRes4_E (s : State) : Result := .next (editReg clearBit 4 .e s)
/-- `RES 4,H` (R264). -/
def execRes4_H (s : State) : Result := .next (editReg clearBit 4 .h s)
/-- `RES 4,L` (R264). -/
def execRes4_L (s : State) : Result := .next (editReg clearBit 4 .l s)
/-- `RES 4,(HL)` (R264). -/
def execRes4_MHL (s : State) : Result := .next (editMem clearBit 4 s)
/-- `RES 4,A` (R264). -/
def execRes4_A (s : State) : Result := .next (editReg clearBit 4 .a s)
/-- `RES 5,B` (R264). -/
def execRes5_B (s : State) : Result := .next (editReg clearBit 5 .b s)
/-- `RES 5,C` (R264). -/
def execRes5_C (s : State) : Result := .next (editReg clearBit 5 .c s)
/-- `RES 5,D` (R264). -/
def execRes5_D (s : State) : Result := .next (editReg clearBit 5 .d s)
/-- `RES 5,E` (R264). -/
def execRes5_E (s : State) : Result := .next (editReg clearBit 5 .e s)
/-- `RES 5,H` (R264). -/
def execRes5_H (s : State) : Result := .next (editReg clearBit 5 .h s)
/-- `RES 5,L` (R264). -/
def execRes5_L (s : State) : Result := .next (editReg clearBit 5 .l s)
/-- `RES 5,(HL)` (R264). -/
def execRes5_MHL (s : State) : Result := .next (editMem clearBit 5 s)
/-- `RES 5,A` (R264). -/
def execRes5_A (s : State) : Result := .next (editReg clearBit 5 .a s)
/-- `RES 6,B` (R264). -/
def execRes6_B (s : State) : Result := .next (editReg clearBit 6 .b s)
/-- `RES 6,C` (R264). -/
def execRes6_C (s : State) : Result := .next (editReg clearBit 6 .c s)
/-- `RES 6,D` (R264). -/
def execRes6_D (s : State) : Result := .next (editReg clearBit 6 .d s)
/-- `RES 6,E` (R264). -/
def execRes6_E (s : State) : Result := .next (editReg clearBit 6 .e s)
/-- `RES 6,H` (R264). -/
def execRes6_H (s : State) : Result := .next (editReg clearBit 6 .h s)
/-- `RES 6,L` (R264). -/
def execRes6_L (s : State) : Result := .next (editReg clearBit 6 .l s)
/-- `RES 6,(HL)` (R264). -/
def execRes6_MHL (s : State) : Result := .next (editMem clearBit 6 s)
/-- `RES 6,A` (R264). -/
def execRes6_A (s : State) : Result := .next (editReg clearBit 6 .a s)
/-- `RES 7,B` (R264). -/
def execRes7_B (s : State) : Result := .next (editReg clearBit 7 .b s)
/-- `RES 7,C` (R264). -/
def execRes7_C (s : State) : Result := .next (editReg clearBit 7 .c s)
/-- `RES 7,D` (R264). -/
def execRes7_D (s : State) : Result := .next (editReg clearBit 7 .d s)
/-- `RES 7,E` (R264). -/
def execRes7_E (s : State) : Result := .next (editReg clearBit 7 .e s)
/-- `RES 7,H` (R264). -/
def execRes7_H (s : State) : Result := .next (editReg clearBit 7 .h s)
/-- `RES 7,L` (R264). -/
def execRes7_L (s : State) : Result := .next (editReg clearBit 7 .l s)
/-- `RES 7,(HL)` (R264). -/
def execRes7_MHL (s : State) : Result := .next (editMem clearBit 7 s)
/-- `RES 7,A` (R264). -/
def execRes7_A (s : State) : Result := .next (editReg clearBit 7 .a s)
/-- `SET 0,B` (R265). -/
def execSet0_B (s : State) : Result := .next (editReg setBit 0 .b s)
/-- `SET 0,C` (R265). -/
def execSet0_C (s : State) : Result := .next (editReg setBit 0 .c s)
/-- `SET 0,D` (R265). -/
def execSet0_D (s : State) : Result := .next (editReg setBit 0 .d s)
/-- `SET 0,E` (R265). -/
def execSet0_E (s : State) : Result := .next (editReg setBit 0 .e s)
/-- `SET 0,H` (R265). -/
def execSet0_H (s : State) : Result := .next (editReg setBit 0 .h s)
/-- `SET 0,L` (R265). -/
def execSet0_L (s : State) : Result := .next (editReg setBit 0 .l s)
/-- `SET 0,(HL)` (R265). -/
def execSet0_MHL (s : State) : Result := .next (editMem setBit 0 s)
/-- `SET 0,A` (R265). -/
def execSet0_A (s : State) : Result := .next (editReg setBit 0 .a s)
/-- `SET 1,B` (R265). -/
def execSet1_B (s : State) : Result := .next (editReg setBit 1 .b s)
/-- `SET 1,C` (R265). -/
def execSet1_C (s : State) : Result := .next (editReg setBit 1 .c s)
/-- `SET 1,D` (R265). -/
def execSet1_D (s : State) : Result := .next (editReg setBit 1 .d s)
/-- `SET 1,E` (R265). -/
def execSet1_E (s : State) : Result := .next (editReg setBit 1 .e s)
/-- `SET 1,H` (R265). -/
def execSet1_H (s : State) : Result := .next (editReg setBit 1 .h s)
/-- `SET 1,L` (R265). -/
def execSet1_L (s : State) : Result := .next (editReg setBit 1 .l s)
/-- `SET 1,(HL)` (R265). -/
def execSet1_MHL (s : State) : Result := .next (editMem setBit 1 s)
/-- `SET 1,A` (R265). -/
def execSet1_A (s : State) : Result := .next (editReg setBit 1 .a s)
/-- `SET 2,B` (R265). -/
def execSet2_B (s : State) : Result := .next (editReg setBit 2 .b s)
/-- `SET 2,C` (R265). -/
def execSet2_C (s : State) : Result := .next (editReg setBit 2 .c s)
/-- `SET 2,D` (R265). -/
def execSet2_D (s : State) : Result := .next (editReg setBit 2 .d s)
/-- `SET 2,E` (R265). -/
def execSet2_E (s : State) : Result := .next (editReg setBit 2 .e s)
/-- `SET 2,H` (R265). -/
def execSet2_H (s : State) : Result := .next (editReg setBit 2 .h s)
/-- `SET 2,L` (R265). -/
def execSet2_L (s : State) : Result := .next (editReg setBit 2 .l s)
/-- `SET 2,(HL)` (R265). -/
def execSet2_MHL (s : State) : Result := .next (editMem setBit 2 s)
/-- `SET 2,A` (R265). -/
def execSet2_A (s : State) : Result := .next (editReg setBit 2 .a s)
/-- `SET 3,B` (R265). -/
def execSet3_B (s : State) : Result := .next (editReg setBit 3 .b s)
/-- `SET 3,C` (R265). -/
def execSet3_C (s : State) : Result := .next (editReg setBit 3 .c s)
/-- `SET 3,D` (R265). -/
def execSet3_D (s : State) : Result := .next (editReg setBit 3 .d s)
/-- `SET 3,E` (R265). -/
def execSet3_E (s : State) : Result := .next (editReg setBit 3 .e s)
/-- `SET 3,H` (R265). -/
def execSet3_H (s : State) : Result := .next (editReg setBit 3 .h s)
/-- `SET 3,L` (R265). -/
def execSet3_L (s : State) : Result := .next (editReg setBit 3 .l s)
/-- `SET 3,(HL)` (R265). -/
def execSet3_MHL (s : State) : Result := .next (editMem setBit 3 s)
/-- `SET 3,A` (R265). -/
def execSet3_A (s : State) : Result := .next (editReg setBit 3 .a s)
/-- `SET 4,B` (R265). -/
def execSet4_B (s : State) : Result := .next (editReg setBit 4 .b s)
/-- `SET 4,C` (R265). -/
def execSet4_C (s : State) : Result := .next (editReg setBit 4 .c s)
/-- `SET 4,D` (R265). -/
def execSet4_D (s : State) : Result := .next (editReg setBit 4 .d s)
/-- `SET 4,E` (R265). -/
def execSet4_E (s : State) : Result := .next (editReg setBit 4 .e s)
/-- `SET 4,H` (R265). -/
def execSet4_H (s : State) : Result := .next (editReg setBit 4 .h s)
/-- `SET 4,L` (R265). -/
def execSet4_L (s : State) : Result := .next (editReg setBit 4 .l s)
/-- `SET 4,(HL)` (R265). -/
def execSet4_MHL (s : State) : Result := .next (editMem setBit 4 s)
/-- `SET 4,A` (R265). -/
def execSet4_A (s : State) : Result := .next (editReg setBit 4 .a s)
/-- `SET 5,B` (R265). -/
def execSet5_B (s : State) : Result := .next (editReg setBit 5 .b s)
/-- `SET 5,C` (R265). -/
def execSet5_C (s : State) : Result := .next (editReg setBit 5 .c s)
/-- `SET 5,D` (R265). -/
def execSet5_D (s : State) : Result := .next (editReg setBit 5 .d s)
/-- `SET 5,E` (R265). -/
def execSet5_E (s : State) : Result := .next (editReg setBit 5 .e s)
/-- `SET 5,H` (R265). -/
def execSet5_H (s : State) : Result := .next (editReg setBit 5 .h s)
/-- `SET 5,L` (R265). -/
def execSet5_L (s : State) : Result := .next (editReg setBit 5 .l s)
/-- `SET 5,(HL)` (R265). -/
def execSet5_MHL (s : State) : Result := .next (editMem setBit 5 s)
/-- `SET 5,A` (R265). -/
def execSet5_A (s : State) : Result := .next (editReg setBit 5 .a s)
/-- `SET 6,B` (R265). -/
def execSet6_B (s : State) : Result := .next (editReg setBit 6 .b s)
/-- `SET 6,C` (R265). -/
def execSet6_C (s : State) : Result := .next (editReg setBit 6 .c s)
/-- `SET 6,D` (R265). -/
def execSet6_D (s : State) : Result := .next (editReg setBit 6 .d s)
/-- `SET 6,E` (R265). -/
def execSet6_E (s : State) : Result := .next (editReg setBit 6 .e s)
/-- `SET 6,H` (R265). -/
def execSet6_H (s : State) : Result := .next (editReg setBit 6 .h s)
/-- `SET 6,L` (R265). -/
def execSet6_L (s : State) : Result := .next (editReg setBit 6 .l s)
/-- `SET 6,(HL)` (R265). -/
def execSet6_MHL (s : State) : Result := .next (editMem setBit 6 s)
/-- `SET 6,A` (R265). -/
def execSet6_A (s : State) : Result := .next (editReg setBit 6 .a s)
/-- `SET 7,B` (R265). -/
def execSet7_B (s : State) : Result := .next (editReg setBit 7 .b s)
/-- `SET 7,C` (R265). -/
def execSet7_C (s : State) : Result := .next (editReg setBit 7 .c s)
/-- `SET 7,D` (R265). -/
def execSet7_D (s : State) : Result := .next (editReg setBit 7 .d s)
/-- `SET 7,E` (R265). -/
def execSet7_E (s : State) : Result := .next (editReg setBit 7 .e s)
/-- `SET 7,H` (R265). -/
def execSet7_H (s : State) : Result := .next (editReg setBit 7 .h s)
/-- `SET 7,L` (R265). -/
def execSet7_L (s : State) : Result := .next (editReg setBit 7 .l s)
/-- `SET 7,(HL)` (R265). -/
def execSet7_MHL (s : State) : Result := .next (editMem setBit 7 s)
/-- `SET 7,A` (R265). -/
def execSet7_A (s : State) : Result := .next (editReg setBit 7 .a s)

end Sys2Proof.Machine
end

