-- ==== Sys2Proof/Machine/System.lean ====
section
/-! DEFINITION. The system instructions and the illegal opcodes (46_system.md, R300 to R306). -/

namespace Sys2Proof.Machine

/-- `NOP` (R300). -/
def nopState (s : State) : State := s.tick 4

/-- `halted <- 1`: HALT, and STOP, whose second byte is already past and ignored (R301, R302). -/
def haltState (s : State) : State := { s with halted := true }.tick 4

/-- `IME <- 0; ei_pending <- 0` (R303). -/
def diState (s : State) : State := { s with ime := false, eiPending := false }.tick 4

/-- `ei_pending <- 1` (R304). -/
def eiState (s : State) : State := { s with eiPending := true }.tick 4

/-- `NOP` (R300). -/
def execNop (s : State) : Result := .next (nopState s)
/-- `STOP` (R302). -/
def execStop (_n : Byte) (s : State) : Result := .next (haltState s)
/-- `HALT` (R301). -/
def execHalt (s : State) : Result := .next (haltState s)
/-- `ILLEGAL 0xD3` (R306). -/
def execIllegalD3 (s : State) : Result := .next (s.raiseIllegalOpcode)
/-- `ILLEGAL 0xDB` (R306). -/
def execIllegalDB (s : State) : Result := .next (s.raiseIllegalOpcode)
/-- `ILLEGAL 0xDD` (R306). -/
def execIllegalDD (s : State) : Result := .next (s.raiseIllegalOpcode)
/-- `ILLEGAL 0xE3` (R306). -/
def execIllegalE3 (s : State) : Result := .next (s.raiseIllegalOpcode)
/-- `ILLEGAL 0xE4` (R306). -/
def execIllegalE4 (s : State) : Result := .next (s.raiseIllegalOpcode)
/-- `ILLEGAL 0xEB` (R306). -/
def execIllegalEB (s : State) : Result := .next (s.raiseIllegalOpcode)
/-- `ILLEGAL 0xEC` (R306). -/
def execIllegalEC (s : State) : Result := .next (s.raiseIllegalOpcode)
/-- `ILLEGAL 0xED` (R306). -/
def execIllegalED (s : State) : Result := .next (s.raiseIllegalOpcode)
/-- `DI` (R303). -/
def execDi (s : State) : Result := .next (diState s)
/-- `ILLEGAL 0xF4` (R306). -/
def execIllegalF4 (s : State) : Result := .next (s.raiseIllegalOpcode)
/-- `EI` (R304). -/
def execEi (s : State) : Result := .next (eiState s)
/-- `ILLEGAL 0xFC` (R306). -/
def execIllegalFC (s : State) : Result := .next (s.raiseIllegalOpcode)
/-- `ILLEGAL 0xFD` (R306). -/
def execIllegalFD (s : State) : Result := .next (s.raiseIllegalOpcode)

end Sys2Proof.Machine
end

