-- ==== Sys2Proof/Machine/Scheduler.lean ====
section
/-! DEFINITION. The CPU's `step()` (R333), the clock scheduler (R390 to R392), and one step of the model: one `step()` of the CPU,
with the devices' share of the quantum appended to the step that ends it (log entry 2). -/

namespace Sys2Proof.Machine

/-- The interrupt a step dispatches, after the wake-up (R333). -/
def State.dispatched (s : State) : Option Interrupt := if s.ime then s.nextInterrupt else none

/-- Fetch, decode and execute, after the delayed effect of EI (R26, R32, R333). -/
def State.runInstr (s : State) : Result := exec s.fetch.1 (s.advance s.fetch.2)

/-- `step()` (R333, R340): wake up; else dispatch, else idle, else run one instruction. -/
def State.cpuStep (s : State) : Result :=
  match s.wake.dispatched with
  | some i => .next (s.wake.takeInterrupt i)
  | none   => if s.wake.halted then .next (s.wake.tick 4) else s.wake.applyEi.runInstr

/-- The input of the next quantum: the oldest waiting one, else the present one again (R400; log entry 3). -/
def State.nextInput (s : State) : Buttons := s.inputs.headD s.bus.input

/-- The end of a quantum: `ppu_step(consumed)`, `io_step(consumed, input)`, and the overshoot carried on, or 0 when the CPU has
died (R391, R392). -/
def State.endQuantum (s : State) : State :=
  { s with
    bus          := { (s.bus.ppuStep s.consumed).ioStep s.consumed with input := s.nextInput }
    carry        := if s.cpuAlive then s.consumed + s.carry - s.quantum else 0
    consumed     := 0
    deviceCycles := s.deviceCycles + s.consumed
    inputs       := s.inputs.tail }

/-- The budget of the quantum is not used up: `consumed < CFG.QUANTUM - carry` (R391, R392). -/
def State.inQuantum (s : State) : Bool := decide (s.consumed + s.carry < s.quantum)

/-- End the quantum if its loop is over (R392). -/
def State.settle (s : State) : State := if s.cpuAlive && s.inQuantum then s else s.endQuantum

/-- One step of the model (log entry 2). A dead CPU: nothing advances (R391). A quantum whose budget the carry has used up: no
`step()` runs, the devices are stepped by 0 and the overshoot is carried on (R392). -/
def State.machineStep (s : State) : Result :=
  if s.cpuAlive = false then .next s
  else if s.inQuantum then
    match s.cpuStep with
    | .next t    => .next t.settle
    | .fault r   => .fault r
    | .refused r => .refused r
  else .next s.endQuantum

/-- `exec_cycles(budget)`'s loop, literally (R392), with at most `fuel` calls of `step()`; a step consumes at least 4 T-cycles, so
fuel `budget / 4 + 1` never runs out early. -/
def State.execCycles : Nat → State → Result
  | 0, s => .next s
  | fuel + 1, s =>
    if s.cpuAlive && s.inQuantum then
      match s.cpuStep with
      | .next t    => State.execCycles fuel t
      | .fault r   => .fault r
      | .refused r => .refused r
    else .next s

/-- `sleep_cycle(input)`, literally (R391): the whole quantum in one transition, from a quantum boundary. -/
def State.sleepCycle (input : Buttons) (s : State) : Result :=
  if s.cpuAlive = false then .next s
  else
    match State.execCycles (s.quantum / 4 + 1) { s with bus := { s.bus with input := input } } with
    | .next t    => .next t.endQuantum
    | .fault r   => .fault r
    | .refused r => .refused r

end Sys2Proof.Machine
end

