-- ==== Sys2Proof/Machine/Step.lean ====
section
/-! DEFINITION. One step of the machine, and the machine with a given instruction as its next one. Both only call what
Machine/Scheduler.lean and Machine/Ops.lean define. -/

namespace Sys2Proof.Machine

/-- One step: log entry 2 says what it is of R391's `sleep_cycle`. -/
def step : State → Host.Outcome State Fault Refusal := State.machineStep

/-- The machine whose next step runs the instruction whose word, as opcode_table.json numbers it, is `w` (log entries 10 and
11). -/
def State.withFetchWord (s : State) (nbits w : Nat) : State := s.placeCode (tableBytes nbits w)

end Sys2Proof.Machine
end

