-- ==== Sys2Proof/Machine/Reset.lean ====
section
/-! DEFINITION. `reset(CFG)` (R420 to R422): the header (R100 to R104), the bank storage (R105, R108), and every other piece of
state from the column of R52 that CFG.BOOT_ROM selects. Also the host's actions on a machine: `break()` and
`save_persisted_state()` (R322, R404). -/

namespace Sys2Proof

/-- A byte of a byte string (an unlisted offset below the length is 0x00). -/
def Image.byte (i : Image) (o : Nat) : Byte := Machine.cellGet i.cells o

/-- The first `n` bytes of a byte string. -/
def Image.upTo (i : Image) (n : Nat) : Machine.Memory := i.cells.filter fun kv => decide (kv.1 < n)

/-- The RAM banks a variant can address (R102): 4 for MBC1, 8 for MBC3; R102 bounds no other variant, and no code gives more than
16. -/
def Variant.ramLimit : Variant → Nat
  | .noMbc => 16
  | .mbc1  => 4
  | .mbc3  => 8
  | .mbc5  => 16

end Sys2Proof

namespace Sys2Proof.Machine

/-- Why a machine cannot be built (R421). -/
inductive LoadError where
  | romTooShort
  | badBootRom
  | unsupportedCartridge (cartType : Byte)
  | badRomSize (code : Byte)
  | badRamSize (code : Byte)
deriving DecidableEq, Repr

/-- What the cartridge-type byte says (R103). -/
structure CartKind where
  variant : Variant
  ram     : Bool
  battery : Bool
  rtc     : Bool
deriving DecidableEq, Repr

/-- The table of R103; no row, no support. -/
def cartKind (cartType : Byte) : Option CartKind :=
  match cartType.toNat with
  | 0x00 => some ⟨.noMbc, false, false, false⟩
  | 0x08 => some ⟨.noMbc, true, false, false⟩
  | 0x09 => some ⟨.noMbc, true, true, false⟩
  | 0x01 => some ⟨.mbc1, false, false, false⟩
  | 0x02 => some ⟨.mbc1, true, false, false⟩
  | 0x03 => some ⟨.mbc1, true, true, false⟩
  | 0x0F => some ⟨.mbc3, false, true, true⟩
  | 0x10 => some ⟨.mbc3, true, true, true⟩
  | 0x11 => some ⟨.mbc3, false, false, false⟩
  | 0x12 => some ⟨.mbc3, true, false, false⟩
  | 0x13 => some ⟨.mbc3, true, true, false⟩
  | 0x19 => some ⟨.mbc5, false, false, false⟩
  | 0x1A => some ⟨.mbc5, true, false, false⟩
  | 0x1B => some ⟨.mbc5, true, true, false⟩
  | 0x1C => some ⟨.mbc5, false, false, false⟩
  | 0x1D => some ⟨.mbc5, true, false, false⟩
  | 0x1E => some ⟨.mbc5, true, true, false⟩
  | _    => none

/-- `rom_bank_count = 2 << code` for codes 0 to 8 (R101). -/
def romBankCount (code : Byte) : Option Nat := if code.toNat ≤ 8 then some (2 <<< code.toNat) else none

/-- `ram_bank_count` by code (R102). -/
def ramBankCount (code : Byte) : Option Nat :=
  match code.toNat with
  | 0 => some 0
  | 1 => some 1
  | 2 => some 1
  | 3 => some 4
  | 4 => some 16
  | 5 => some 8
  | _ => none

/-- `ram_bank_count` with R103's "forced to 0", or none where R102 fails the load (log entry 9). -/
def loadRamBanks (k : CartKind) (code : Byte) : Option Nat :=
  match ramBankCount code with
  | none   => none
  | some n =>
    if k.ram = false then some 0
    else if n ≤ k.variant.ramLimit then some n
    else none

/-- The length of the ERAM part of a battery image (R108). -/
def eramLen (banks : Nat) : Nat := banks * 0x2000

/-- ERAM at reset (R108): the battery image if the cartridge has a battery and the image has the right length, else zeros. -/
def loadEram (cfg : Cfg) (k : CartKind) (banks : Nat) : Memory :=
  if k.battery = true ∧ (cfg.battery.len = eramLen banks ∨ (k.rtc = true ∧ cfg.battery.len = eramLen banks + 5)) then
    cfg.battery.upTo (eramLen banks)
  else []

/-- The cartridge of a header whose fields are all acceptable (R47, R48, R100, R105, R108). The clock registers start at 0
whatever CFG.BATTERY holds (R48; log entry 7). -/
def buildCart (cfg : Cfg) (k : CartKind) (romBanks ramBanks : Nat) : Cart where
  title          := (List.range 16).map fun i => cfg.rom.byte (0x134 + i)
  cartType       := cfg.rom.byte 0x147
  romSizeCode    := cfg.rom.byte 0x148
  ramSizeCode    := cfg.rom.byte 0x149
  headerChecksum := cfg.rom.byte 0x14D
  globalChecksum := joinBytes (cfg.rom.byte 0x14E) (cfg.rom.byte 0x14F)
  variant        := k.variant
  battery        := k.battery
  hasRtc         := k.rtc
  romBanks       := romBanks
  ramBanks       := ramBanks
  rom            := cfg.rom.upTo (romBanks * 0x4000)
  romLen         := min cfg.rom.len (romBanks * 0x4000)
  eram           := loadEram cfg k ramBanks
  ramEnable      := false
  romBankLo      := 1
  romBankHi      := 0
  ramBank        := 0
  mbc1Mode       := false
  rtc            := Rtc.zero
  rtcLatched     := Rtc.zero
  latchPrev      := 0xFF

/-- Parse the header and build the cartridge, or say why not (R101 to R104, R421; the order of the checks is log entry 8). -/
def loadCart (cfg : Cfg) : Except LoadError Cart :=
  match cartKind (cfg.rom.byte 0x147) with
  | none   => .error (.unsupportedCartridge (cfg.rom.byte 0x147))
  | some k =>
    if k.variant ∉ cfg.supportedMbc then .error (.unsupportedCartridge (cfg.rom.byte 0x147))
    else
      match romBankCount (cfg.rom.byte 0x148) with
      | none    => .error (.badRomSize (cfg.rom.byte 0x148))
      | some nr =>
        match loadRamBanks k (cfg.rom.byte 0x149) with
        | none    => .error (.badRamSize (cfg.rom.byte 0x149))
        | some na => .ok (buildCart cfg k nr na)

/-- The CPU registers at reset with a boot ROM (R52, left column). -/
def Regs.cold : Regs := ⟨0, 0, 0, 0, 0, 0, 0, 0, 0x0000, 0x0000⟩

/-- The display controller at reset with a boot ROM (R52, left column). -/
def Ppu.cold : Ppu :=
  { Ppu.reset with
    lcdc := 0x00, coincidence := false, mode := .hblank, dma := 0x00, bgp := 0x00, obp0 := 0x00, obp1 := 0x00 }

/-- The bus at reset with a boot ROM (R52, left column). -/
def Bus.cold : Bus :=
  { Bus.reset with
    bootOff := false
    ifl     := 0
    timer   := ⟨0x0000, 0x00, 0x00, 0⟩
    ppu     := Ppu.cold }

/-- The machine of a configuration and its cartridge: the column of R52 by the presence of CFG.BOOT_ROM (R420 step 6). -/
def powerOn (cfg : Cfg) (cart : Cart) : State :=
  if cfg.bootRom.len = 256 then
    { State.reset with
      regs    := Regs.cold
      bus     := { Bus.cold with contention := cfg.contention, boot := some (cfg.bootRom.upTo 256), cart := cart }
      quantum := cfg.quantum }
  else
    { State.reset with
      bus     := { Bus.reset with contention := cfg.contention, cart := cart }
      quantum := cfg.quantum }

/-- `reset(CFG)` (R420): a machine, or the load error (R421). -/
def reset (cfg : Cfg) : Except LoadError State :=
  if cfg.romOk = false then .error .romTooShort
  else if cfg.bootOk = false then .error .badBootRom
  else
    match loadCart cfg with
    | .error e => .error e
    | .ok cart => .ok (powerOn cfg cart)

/-- `break()` (R322): `cpu_alive <- false` and nothing else. -/
def State.hostBreak (s : State) : State := { s with cpuAlive := false }

/-- The clock registers as bytes of a battery image (R108, R404). -/
def Rtc.cells (r : Rtc) (at0 : Nat) (m : Memory) : Memory :=
  (List.range 5).foldl (fun m i => cellSet m (at0 + i) (r.get i)) m

/-- `save_persisted_state()` (R108, R404): the bytes of ERAM, followed by the five clock bytes when `has_rtc`; nothing without a
battery. It reads the state and changes none. -/
def State.savePersisted (s : State) : Option Image :=
  let c := s.bus.cart
  if c.battery = false then none
  else if c.hasRtc then some ⟨eramLen c.ramBanks + 5, c.rtc.cells (eramLen c.ramBanks) c.eram⟩
  else some ⟨eramLen c.ramBanks, c.eram⟩

end Sys2Proof.Machine
end

