-- ==== Sys2Proof/Machine/Tables.lean ====
section
/-! DEFINITION. The documented costs in T-cycles (R148's second table, R149, R394, R440, R441) and the flag columns of
opcode_table.json (R153, 95_test_vectors.md section 2), as data beside the meanings, so that a statement can hold the meanings
against the tables. No meaning reads this file. -/

namespace Sys2Proof.Machine

/-- Where the table prints "--" or "pfx" for a cost, this list has 4, the cost of an illegal opcode (R306, R441). -/
def illegalCost : Nat := 4

/-- Row 0x: cost not taken, cost taken (R148). -/
def costRow0 : List (Nat × Nat) :=
  [(4, 4), (12, 12), (8, 8), (8, 8), (4, 4), (4, 4), (8, 8), (4, 4), (20, 20), (8, 8), (8, 8), (8, 8), (4, 4),
   (4, 4), (8, 8), (4, 4)]

/-- Row 1x: cost not taken, cost taken (R148). -/
def costRow1 : List (Nat × Nat) :=
  [(4, 4), (12, 12), (8, 8), (8, 8), (4, 4), (4, 4), (8, 8), (4, 4), (12, 12), (8, 8), (8, 8), (8, 8), (4, 4),
   (4, 4), (8, 8), (4, 4)]

/-- Row 2x: cost not taken, cost taken (R148). -/
def costRow2 : List (Nat × Nat) :=
  [(8, 12), (12, 12), (8, 8), (8, 8), (4, 4), (4, 4), (8, 8), (4, 4), (8, 12), (8, 8), (8, 8), (8, 8), (4, 4),
   (4, 4), (8, 8), (4, 4)]

/-- Row 3x: cost not taken, cost taken (R148). -/
def costRow3 : List (Nat × Nat) :=
  [(8, 12), (12, 12), (8, 8), (8, 8), (12, 12), (12, 12), (12, 12), (4, 4), (8, 12), (8, 8), (8, 8), (8, 8), (4,
   4), (4, 4), (8, 8), (4, 4)]

/-- Row 4x: cost not taken, cost taken (R148). -/
def costRow4 : List (Nat × Nat) :=
  [(4, 4), (4, 4), (4, 4), (4, 4), (4, 4), (4, 4), (8, 8), (4, 4), (4, 4), (4, 4), (4, 4), (4, 4), (4, 4), (4,
   4), (8, 8), (4, 4)]

/-- Row 5x: cost not taken, cost taken (R148). -/
def costRow5 : List (Nat × Nat) :=
  [(4, 4), (4, 4), (4, 4), (4, 4), (4, 4), (4, 4), (8, 8), (4, 4), (4, 4), (4, 4), (4, 4), (4, 4), (4, 4), (4,
   4), (8, 8), (4, 4)]

/-- Row 6x: cost not taken, cost taken (R148). -/
def costRow6 : List (Nat × Nat) :=
  [(4, 4), (4, 4), (4, 4), (4, 4), (4, 4), (4, 4), (8, 8), (4, 4), (4, 4), (4, 4), (4, 4), (4, 4), (4, 4), (4,
   4), (8, 8), (4, 4)]

/-- Row 7x: cost not taken, cost taken (R148). -/
def costRow7 : List (Nat × Nat) :=
  [(8, 8), (8, 8), (8, 8), (8, 8), (8, 8), (8, 8), (4, 4), (8, 8), (4, 4), (4, 4), (4, 4), (4, 4), (4, 4), (4,
   4), (8, 8), (4, 4)]

/-- Row 8x: cost not taken, cost taken (R148). -/
def costRow8 : List (Nat × Nat) :=
  [(4, 4), (4, 4), (4, 4), (4, 4), (4, 4), (4, 4), (8, 8), (4, 4), (4, 4), (4, 4), (4, 4), (4, 4), (4, 4), (4,
   4), (8, 8), (4, 4)]

/-- Row 9x: cost not taken, cost taken (R148). -/
def costRow9 : List (Nat × Nat) :=
  [(4, 4), (4, 4), (4, 4), (4, 4), (4, 4), (4, 4), (8, 8), (4, 4), (4, 4), (4, 4), (4, 4), (4, 4), (4, 4), (4,
   4), (8, 8), (4, 4)]

/-- Row Ax: cost not taken, cost taken (R148). -/
def costRowA : List (Nat × Nat) :=
  [(4, 4), (4, 4), (4, 4), (4, 4), (4, 4), (4, 4), (8, 8), (4, 4), (4, 4), (4, 4), (4, 4), (4, 4), (4, 4), (4,
   4), (8, 8), (4, 4)]

/-- Row Bx: cost not taken, cost taken (R148). -/
def costRowB : List (Nat × Nat) :=
  [(4, 4), (4, 4), (4, 4), (4, 4), (4, 4), (4, 4), (8, 8), (4, 4), (4, 4), (4, 4), (4, 4), (4, 4), (4, 4), (4,
   4), (8, 8), (4, 4)]

/-- Row Cx: cost not taken, cost taken (R148). -/
def costRowC : List (Nat × Nat) :=
  [(8, 20), (12, 12), (12, 16), (16, 16), (12, 24), (16, 16), (8, 8), (16, 16), (8, 20), (16, 16), (12, 16),
   (illegalCost, illegalCost), (12, 24), (24, 24), (8, 8), (16, 16)]

/-- Row Dx: cost not taken, cost taken (R148). -/
def costRowD : List (Nat × Nat) :=
  [(8, 20), (12, 12), (12, 16), (illegalCost, illegalCost), (12, 24), (16, 16), (8, 8), (16, 16), (8, 20), (16,
   16), (12, 16), (illegalCost, illegalCost), (12, 24), (illegalCost, illegalCost), (8, 8), (16, 16)]

/-- Row Ex: cost not taken, cost taken (R148). -/
def costRowE : List (Nat × Nat) :=
  [(12, 12), (12, 12), (8, 8), (illegalCost, illegalCost), (illegalCost, illegalCost), (16, 16), (8, 8), (16,
   16), (16, 16), (4, 4), (16, 16), (illegalCost, illegalCost), (illegalCost, illegalCost), (illegalCost,
   illegalCost), (8, 8), (16, 16)]

/-- Row Fx: cost not taken, cost taken (R148). -/
def costRowF : List (Nat × Nat) :=
  [(12, 12), (12, 12), (8, 8), (4, 4), (illegalCost, illegalCost), (16, 16), (8, 8), (16, 16), (12, 12), (8, 8),
   (16, 16), (4, 4), (illegalCost, illegalCost), (illegalCost, illegalCost), (8, 8), (16, 16)]

/-- The cost table by high nibble (R148). -/
def costRows : List (List (Nat × Nat)) :=
  [costRow0, costRow1, costRow2, costRow3, costRow4, costRow5, costRow6, costRow7,
   costRow8, costRow9, costRowA, costRowB, costRowC, costRowD, costRowE, costRowF]

/-- The cost of a CB-prefixed instruction by its second byte (R149, R441): 8 on a register, 16 on the byte at HL, 12 for
`BIT b,(HL)`. -/
def prefixedCost (op2 : Byte) : Nat :=
  if op2.toNat % 8 = 6 then (if op2.toNat / 64 = 1 then 12 else 16) else 8

/-- The documented cost of the instruction that starts with `b0`, `b1` being the byte after it; `taken` says whether the
condition of a conditional control transfer held (R394). -/
def documentedCost (b0 b1 : Byte) (taken : Bool) : Nat :=
  if b0 = 0xCB then prefixedCost b1
  else
    let c := ((costRows.getD (b0.toNat / 16) []).getD (b0.toNat % 16) (illegalCost, illegalCost))
    if taken then c.2 else c.1

/-- What a flag column says of one flag: `-`, `0`, `1`, or a letter (95_test_vectors.md section 2). -/
inductive FlagEffect where
  | keep
  | clear
  | set
  | computed
deriving DecidableEq, Repr

/-- A row's flag column, in the order Z N Hf Cf. -/
structure FlagColumn where
  z : FlagEffect
  n : FlagEffect
  h : FlagEffect
  c : FlagEffect
deriving DecidableEq, Repr

/-- `----`. -/
def fKKKK : FlagColumn := ⟨.keep, .keep, .keep, .keep⟩
/-- `-001`. -/
def fK001 : FlagColumn := ⟨.keep, .clear, .clear, .set⟩
/-- `-00C`. -/
def fK00C : FlagColumn := ⟨.keep, .clear, .clear, .computed⟩
/-- `-0HC`. -/
def fK0HC : FlagColumn := ⟨.keep, .clear, .computed, .computed⟩
/-- `-11-`. -/
def fK11K : FlagColumn := ⟨.keep, .set, .set, .keep⟩
/-- `000C`. -/
def f000C : FlagColumn := ⟨.clear, .clear, .clear, .computed⟩
/-- `00HC`. -/
def f00HC : FlagColumn := ⟨.clear, .clear, .computed, .computed⟩
/-- `Z-0C`. -/
def fZK0C : FlagColumn := ⟨.computed, .keep, .clear, .computed⟩
/-- `Z000`. -/
def fZ000 : FlagColumn := ⟨.computed, .clear, .clear, .clear⟩
/-- `Z00C`. -/
def fZ00C : FlagColumn := ⟨.computed, .clear, .clear, .computed⟩
/-- `Z01-`. -/
def fZ01K : FlagColumn := ⟨.computed, .clear, .set, .keep⟩
/-- `Z010`. -/
def fZ010 : FlagColumn := ⟨.computed, .clear, .set, .clear⟩
/-- `Z0H-`. -/
def fZ0HK : FlagColumn := ⟨.computed, .clear, .computed, .keep⟩
/-- `Z0HC`. -/
def fZ0HC : FlagColumn := ⟨.computed, .clear, .computed, .computed⟩
/-- `Z1H-`. -/
def fZ1HK : FlagColumn := ⟨.computed, .set, .computed, .keep⟩
/-- `Z1HC`. -/
def fZ1HC : FlagColumn := ⟨.computed, .set, .computed, .computed⟩
/-- `ZNHC`. -/
def fZNHC : FlagColumn := ⟨.computed, .computed, .computed, .computed⟩

/-- Row 0x of the flag columns. -/
def flagRow0 : List FlagColumn :=
  [fKKKK, fKKKK, fKKKK, fKKKK, fZ0HK, fZ1HK, fKKKK, f000C, fKKKK, fK0HC, fKKKK, fKKKK, fZ0HK, fZ1HK, fKKKK, f000C]

/-- Row 1x of the flag columns. -/
def flagRow1 : List FlagColumn :=
  [fKKKK, fKKKK, fKKKK, fKKKK, fZ0HK, fZ1HK, fKKKK, f000C, fKKKK, fK0HC, fKKKK, fKKKK, fZ0HK, fZ1HK, fKKKK, f000C]

/-- Row 2x of the flag columns. -/
def flagRow2 : List FlagColumn :=
  [fKKKK, fKKKK, fKKKK, fKKKK, fZ0HK, fZ1HK, fKKKK, fZK0C, fKKKK, fK0HC, fKKKK, fKKKK, fZ0HK, fZ1HK, fKKKK, fK11K]

/-- Row 3x of the flag columns. -/
def flagRow3 : List FlagColumn :=
  [fKKKK, fKKKK, fKKKK, fKKKK, fZ0HK, fZ1HK, fKKKK, fK001, fKKKK, fK0HC, fKKKK, fKKKK, fZ0HK, fZ1HK, fKKKK, fK00C]

/-- Row 4x of the flag columns. -/
def flagRow4 : List FlagColumn :=
  [fKKKK, fKKKK, fKKKK, fKKKK, fKKKK, fKKKK, fKKKK, fKKKK, fKKKK, fKKKK, fKKKK, fKKKK, fKKKK, fKKKK, fKKKK, fKKKK]

/-- Row 5x of the flag columns. -/
def flagRow5 : List FlagColumn :=
  [fKKKK, fKKKK, fKKKK, fKKKK, fKKKK, fKKKK, fKKKK, fKKKK, fKKKK, fKKKK, fKKKK, fKKKK, fKKKK, fKKKK, fKKKK, fKKKK]

/-- Row 6x of the flag columns. -/
def flagRow6 : List FlagColumn :=
  [fKKKK, fKKKK, fKKKK, fKKKK, fKKKK, fKKKK, fKKKK, fKKKK, fKKKK, fKKKK, fKKKK, fKKKK, fKKKK, fKKKK, fKKKK, fKKKK]

/-- Row 7x of the flag columns. -/
def flagRow7 : List FlagColumn :=
  [fKKKK, fKKKK, fKKKK, fKKKK, fKKKK, fKKKK, fKKKK, fKKKK, fKKKK, fKKKK, fKKKK, fKKKK, fKKKK, fKKKK, fKKKK, fKKKK]

/-- Row 8x of the flag columns. -/
def flagRow8 : List FlagColumn :=
  [fZ0HC, fZ0HC, fZ0HC, fZ0HC, fZ0HC, fZ0HC, fZ0HC, fZ0HC, fZ0HC, fZ0HC, fZ0HC, fZ0HC, fZ0HC, fZ0HC, fZ0HC, fZ0HC]

/-- Row 9x of the flag columns. -/
def flagRow9 : List FlagColumn :=
  [fZ1HC, fZ1HC, fZ1HC, fZ1HC, fZ1HC, fZ1HC, fZ1HC, fZ1HC, fZ1HC, fZ1HC, fZ1HC, fZ1HC, fZ1HC, fZ1HC, fZ1HC, fZ1HC]

/-- Row Ax of the flag columns. -/
def flagRowA : List FlagColumn :=
  [fZ010, fZ010, fZ010, fZ010, fZ010, fZ010, fZ010, fZ010, fZ000, fZ000, fZ000, fZ000, fZ000, fZ000, fZ000, fZ000]

/-- Row Bx of the flag columns. -/
def flagRowB : List FlagColumn :=
  [fZ000, fZ000, fZ000, fZ000, fZ000, fZ000, fZ000, fZ000, fZ1HC, fZ1HC, fZ1HC, fZ1HC, fZ1HC, fZ1HC, fZ1HC, fZ1HC]

/-- Row Cx of the flag columns. -/
def flagRowC : List FlagColumn :=
  [fKKKK, fKKKK, fKKKK, fKKKK, fKKKK, fKKKK, fZ0HC, fKKKK, fKKKK, fKKKK, fKKKK, fKKKK, fKKKK, fKKKK, fZ0HC, fKKKK]

/-- Row Dx of the flag columns. -/
def flagRowD : List FlagColumn :=
  [fKKKK, fKKKK, fKKKK, fKKKK, fKKKK, fKKKK, fZ1HC, fKKKK, fKKKK, fKKKK, fKKKK, fKKKK, fKKKK, fKKKK, fZ1HC, fKKKK]

/-- Row Ex of the flag columns. -/
def flagRowE : List FlagColumn :=
  [fKKKK, fKKKK, fKKKK, fKKKK, fKKKK, fKKKK, fZ010, fKKKK, f00HC, fKKKK, fKKKK, fKKKK, fKKKK, fKKKK, fZ000, fKKKK]

/-- Row Fx of the flag columns. -/
def flagRowF : List FlagColumn :=
  [fKKKK, fZNHC, fKKKK, fKKKK, fKKKK, fKKKK, fZ000, fKKKK, f00HC, fKKKK, fKKKK, fKKKK, fKKKK, fKKKK, fZ1HC, fKKKK]

/-- The flag columns of the base opcodes by high nibble. -/
def flagRows : List (List FlagColumn) :=
  [flagRow0, flagRow1, flagRow2, flagRow3, flagRow4, flagRow5, flagRow6, flagRow7,
   flagRow8, flagRow9, flagRowA, flagRowB, flagRowC, flagRowD, flagRowE, flagRowF]

/-- The flag column of a CB-prefixed instruction by its second byte. -/
def prefixedFlags (op2 : Byte) : FlagColumn :=
  match op2.toNat / 64 with
  | 0 => if op2.toNat / 8 = 6 then fZ000 else fZ00C
  | 1 => fZ01K
  | _ => fKKKK

/-- The flag column of the instruction that starts with `b0`, `b1` being the byte after it. -/
def documentedFlags (b0 b1 : Byte) : FlagColumn :=
  if b0 = 0xCB then prefixedFlags b1
  else (flagRows.getD (b0.toNat / 16) []).getD (b0.toNat % 16) fKKKK

end Sys2Proof.Machine
end

