-- ==== Sys2Proof/Safety.lean ====
section
/-! DEFINITION. The invariant of the machine (R53), and the vocabulary the obligations are stated in: flags bit by bit, operand
forms with their encodings and costs, the byte stores of an instruction, and plain storage. No meaning reads this file. -/

namespace Sys2Proof.Machine

/-! ## The invariant (R53) -/

/-- A well-formed cartridge: bank counts as R101 and R102 give them, arrays in canonical form and inside their sizes (R33), bank
registers inside their variant's widths (R48). -/
structure Cart.Ok (c : Cart) : Prop where
  romBanks : c.romBanks ∈ [2, 4, 8, 16, 32, 64, 128, 256, 512]
  ramBanks : c.ramBanks ∈ [0, 1, 4, 8, 16]
  romLen   : c.romLen ≤ c.romBanks * 0x4000
  rom      : Memory.wf c.romLen c.rom = true
  eram     : Memory.wf (c.ramBanks * 0x2000) c.eram = true
  mbc1     : c.variant = .mbc1 → 1 ≤ c.romBankLo.toNat ∧ c.romBankLo.toNat ≤ 0x1F
  mbc3     : c.variant = .mbc3 → 1 ≤ c.romBankLo.toNat ∧ c.romBankLo.toNat ≤ 0x7F
  mbc5     : c.variant = .mbc5 → c.romBankHi.toNat ≤ 1

/-- How many scanlines of the frame can have shown the window so far (R45, R378). -/
def Ppu.windowBound (p : Ppu) : Nat :=
  if 144 ≤ p.ly.toNat then 144 else p.ly.toNat + (if p.mode = .hblank then 1 else 0)

/-- A legal display controller (R41, R45, R53 (b) to (d)). -/
structure Ppu.Ok (p : Ppu) : Prop where
  ly      : p.ly.toNat ≤ 153
  modeOn  : p.lcdOn = true → (p.mode = .vblank ↔ 144 ≤ p.ly.toNat)
  modeOff : p.lcdOn = false → p.mode = .hblank ∧ p.ly = 0 ∧ p.dot = 0
  dot     : p.dot < p.mode.width
  window  : p.windowLine ≤ p.windowBound
  back    : Store.wf (144 * 160) p.fbBack = true
  front   : Store.wf (144 * 160) p.fbFront = true

/-- Every storage array in canonical form and inside its size (R33), with a legal cartridge and display controller. -/
structure Bus.Ok (b : Bus) : Prop where
  cart    : b.cart.Ok
  ppu     : b.ppu.Ok
  boot    : ∀ m, b.boot = some m → Memory.wf 0x100 m = true
  vram    : Memory.wf 0x2000 b.vram = true
  wram    : Memory.wf 0x2000 b.wram = true
  oam     : Memory.wf 0xA0 b.oam = true
  unused  : Memory.wf 0x60 b.unused = true
  ioPlain : Memory.wf 0x80 b.ioPlain = true
  hram    : Memory.wf 0x7F b.hram = true

/-- The invariant every step keeps: F[3:0] = 0 (R24, R53 (a)), a legal bus, and the scheduler's accounts (R49, R53 (i), R390,
R393). -/
structure State.Inv (s : State) : Prop where
  flags    : s.regs.f.extractLsb' 0 4 = 0
  bus      : s.bus.Ok
  quantum  : 4 ≤ s.quantum ∧ s.quantum % 4 = 0
  carry    : s.carry ≤ 20 ∧ s.carry % 4 = 0
  consumed : s.consumed % 4 = 0
  budget   : s.consumed = 0 ∨ s.consumed + s.carry < s.quantum
  dead     : s.cpuAlive = false → s.consumed = 0
  account  : s.cpuCycles = s.deviceCycles + s.consumed

/-! ## The vocabulary of the statements -/

/-- The state after an instruction that touches registers and memory only, at a cost of `n` T-cycles: every other field is as it
was. -/
def State.after (s : State) (regs : Regs) (bus : Bus) (n : Nat) : State :=
  { s with regs := regs, bus := bus, consumed := s.consumed + n, cpuCycles := s.cpuCycles + n }

/-- A flag byte, bit by bit (R23, R24): Z = F[7], N = F[6], Hf = F[5], Cf = F[4], F[3:0] = 0. -/
def FlagsAre (f : Byte) (z n h c : Bool) : Prop :=
  f.getLsbD 7 = z ∧ f.getLsbD 6 = n ∧ f.getLsbD 5 = h ∧ f.getLsbD 4 = c ∧
  f.getLsbD 3 = false ∧ f.getLsbD 2 = false ∧ f.getLsbD 1 = false ∧ f.getLsbD 0 = false

/-- An instruction's encoding, both ways: the encoder writes these bytes, and the decoder reads the instruction from exactly
them. -/
def Assembles (i : Instr) (bytes : List Byte) : Prop := encode i = bytes ∧ decode bytes = .ok (i, [])

/-- A byte from an integer below 256. -/
def byteOf (n : Nat) : Byte := BitVec.ofNat 8 n

/-- `cond(cc)` on a flag byte (R147): NZ is Z = 0, Z is Z = 1, NC is Cf = 0, C is Cf = 1. -/
def condHolds (cc : Cond) (f : Byte) : Bool :=
  match cc with
  | .nz => decide (f.getLsbD 7 = false)
  | .z  => decide (f.getLsbD 7 = true)
  | .nc => decide (f.getLsbD 4 = false)
  | .c  => decide (f.getLsbD 4 = true)

/-- The second operand of the eight accumulator operations (R231). -/
inductive AluForm where
  | reg (r : Reg8)
  | mem
  | imm (n : Byte)
deriving DecidableEq, Repr

/-- The instruction of an operation and a form (R231). -/
def AluForm.instr (op : AluOp) : AluForm → Instr
  | .reg r => Instr.aluR op r
  | .mem   => Instr.aluM op
  | .imm n => Instr.aluI n op

/-- Its bytes: `10aaasss`, `10aaa110`, `11aaa110 n` (R231). -/
def AluForm.bytes (op : AluOp) : AluForm → List Byte
  | .reg r => [byteOf (0x80 + 8 * op.code + r.code)]
  | .mem   => [byteOf (0x80 + 8 * op.code + 6)]
  | .imm n => [byteOf (0xC0 + 8 * op.code + 6), n]

/-- The operand's value (R231). -/
def AluForm.value (s : State) : AluForm → Byte
  | .reg r => s.regs.get r
  | .mem   => s.read (joinBytes s.regs.h s.regs.l)
  | .imm n => n

/-- The cost (R231): 4, 8, 8. -/
def AluForm.cost : AluForm → Nat
  | .reg _ => 4
  | .mem   => 8
  | .imm _ => 8

/-- An operand of the `r8` table (R144): a register, or the byte at HL. -/
inductive Operand where
  | reg (r : Reg8)
  | mem
deriving DecidableEq, Repr

/-- Its code (R144). -/
def Operand.code : Operand → Nat
  | .reg r => r.code
  | .mem   => 6

/-- Its value. -/
def Operand.value (s : State) : Operand → Byte
  | .reg r => s.regs.get r
  | .mem   => s.read (joinBytes s.regs.h s.regs.l)

/-- The registers after the operand is overwritten. -/
def Operand.regsAfter (s : State) (v : Byte) : Operand → Regs
  | .reg r => s.regs.set r v
  | .mem   => s.regs

/-- The bus after the operand is overwritten. -/
def Operand.busAfter (s : State) (v : Byte) : Operand → Bus
  | .reg _ => s.bus
  | .mem   => s.bus.write (joinBytes s.regs.h s.regs.l) v

/-- A CB-prefixed rotate or shift of an operand (R149). -/
def Operand.rot (op : RotOp) : Operand → Instr
  | .reg r => Instr.rotR op r
  | .mem   => Instr.rotM op

/-- `BIT b,s` (R149). -/
def Operand.bit (b : Fin 8) : Operand → Instr
  | .reg r => Instr.bitR b r
  | .mem   => Instr.bitM b

/-- `RES b,s` (R149). -/
def Operand.res (b : Fin 8) : Operand → Instr
  | .reg r => Instr.resR b r
  | .mem   => Instr.resM b

/-- `SET b,s` (R149). -/
def Operand.set (b : Fin 8) : Operand → Instr
  | .reg r => Instr.setR b r
  | .mem   => Instr.setM b

/-- The cost of a CB-prefixed instruction that writes its operand: 8, or 16 for (HL) (R254). -/
def Operand.cost : Operand → Nat
  | .reg _ => 8
  | .mem   => 16

/-- The result `w` and the bit moved out of a rotate, shift or SWAP, by integer arithmetic on the operand `v` and the old Cf: the
operations of R255 to R262. -/
def rotResult (op : RotOp) (v : Nat) (c : Bool) : Nat × Bool :=
  match op with
  | .rlc  => (2 * v % 256 + v / 128, decide (v / 128 = 1))
  | .rrc  => (v / 2 + 128 * (v % 2), decide (v % 2 = 1))
  | .rl   => (2 * v % 256 + bitNat c, decide (v / 128 = 1))
  | .rr   => (v / 2 + 128 * bitNat c, decide (v % 2 = 1))
  | .sla  => (2 * v % 256, decide (v / 128 = 1))
  | .sra  => (v / 2 + 128 * (v / 128), decide (v % 2 = 1))
  | .swap => (16 * (v % 16) + v / 16, false)
  | .srl  => (v / 2, decide (v % 2 = 1))

/-! ## What an instruction stores -/

/-- The two byte stores of `MemWrite(a, 2, v)`, in order (R65). -/
def State.wordStores (_s : State) (a v : Word) : List (Word × Byte) := [(a, loByte v), (a + 1, hiByte v)]

/-- The two byte stores of `push16(v)`, in order (R204). -/
def State.pushStores (s : State) (v : Word) : List (Word × Byte) := s.wordStores (s.regs.sp - 2) v

end Sys2Proof.Machine

namespace Sys2Proof

open Sys2Proof.Machine

/-- The byte stores of an instruction in a state with PC past it, in the order it makes them: the address expressions are those
of the meanings. Every instruction not listed stores nothing. -/
def Instr.stores (i : Instr) (s : State) : List (Word × Byte) :=
  match i with
  | .ldMHL_B => [(s.hl, s.regs.b)]
  | .ldMHL_C => [(s.hl, s.regs.c)]
  | .ldMHL_D => [(s.hl, s.regs.d)]
  | .ldMHL_E => [(s.hl, s.regs.e)]
  | .ldMHL_H => [(s.hl, s.regs.h)]
  | .ldMHL_L => [(s.hl, s.regs.l)]
  | .ldMHL_A => [(s.hl, s.regs.a)]
  | .ldMHL_n n => [(s.hl, n)]
  | .ldMBC_A => [(s.reg16 .bc, s.regs.a)]
  | .ldMDE_A => [(s.reg16 .de, s.regs.a)]
  | .ldMnn_A nn => [(nn, s.regs.a)]
  | .ldhMn_A n => [(highPage n, s.regs.a)]
  | .ldMC_A => [(highPage s.regs.c, s.regs.a)]
  | .ldMHLinc_A => [(s.hl, s.regs.a)]
  | .ldMHLdec_A => [(s.hl, s.regs.a)]
  | .ldMnn_SP nn => s.wordStores nn s.regs.sp
  | .pushBC => s.pushStores (s.regs.getStack .bc)
  | .pushDE => s.pushStores (s.regs.getStack .de)
  | .pushHL => s.pushStores (s.regs.getStack .hl)
  | .pushAF => s.pushStores (s.regs.getStack .af)
  | .incMHL => [(s.hl, (incByte s.regs.f (s.read s.hl)).1)]
  | .decMHL => [(s.hl, (decByte s.regs.f (s.read s.hl)).1)]
  | .rlcMHL => [(s.hl, (rotLeft (s.read s.hl) (flagC s.regs.f)).1)]
  | .rrcMHL => [(s.hl, (rotRight (s.read s.hl) (flagC s.regs.f)).1)]
  | .rl_MHL => [(s.hl, (rotLeftCarry (s.read s.hl) (flagC s.regs.f)).1)]
  | .rr_MHL => [(s.hl, (rotRightCarry (s.read s.hl) (flagC s.regs.f)).1)]
  | .slaMHL => [(s.hl, (shiftLeft (s.read s.hl) (flagC s.regs.f)).1)]
  | .sraMHL => [(s.hl, (shiftRightArith (s.read s.hl) (flagC s.regs.f)).1)]
  | .swapMHL => [(s.hl, (swapNibbles (s.read s.hl) (flagC s.regs.f)).1)]
  | .srlMHL => [(s.hl, (shiftRight (s.read s.hl) (flagC s.regs.f)).1)]
  | .res0_MHL => [(s.hl, clearBit (s.read s.hl) 0)]
  | .res1_MHL => [(s.hl, clearBit (s.read s.hl) 1)]
  | .res2_MHL => [(s.hl, clearBit (s.read s.hl) 2)]
  | .res3_MHL => [(s.hl, clearBit (s.read s.hl) 3)]
  | .res4_MHL => [(s.hl, clearBit (s.read s.hl) 4)]
  | .res5_MHL => [(s.hl, clearBit (s.read s.hl) 5)]
  | .res6_MHL => [(s.hl, clearBit (s.read s.hl) 6)]
  | .res7_MHL => [(s.hl, clearBit (s.read s.hl) 7)]
  | .set0_MHL => [(s.hl, setBit (s.read s.hl) 0)]
  | .set1_MHL => [(s.hl, setBit (s.read s.hl) 1)]
  | .set2_MHL => [(s.hl, setBit (s.read s.hl) 2)]
  | .set3_MHL => [(s.hl, setBit (s.read s.hl) 3)]
  | .set4_MHL => [(s.hl, setBit (s.read s.hl) 4)]
  | .set5_MHL => [(s.hl, setBit (s.read s.hl) 5)]
  | .set6_MHL => [(s.hl, setBit (s.read s.hl) 6)]
  | .set7_MHL => [(s.hl, setBit (s.read s.hl) 7)]
  | .call_nn _ => s.pushStores s.regs.pc
  | .callNZ_nn _ => if s.cond .nz then s.pushStores s.regs.pc else []
  | .callZ_nn _ => if s.cond .z then s.pushStores s.regs.pc else []
  | .callNC_nn _ => if s.cond .nc then s.pushStores s.regs.pc else []
  | .callC_nn _ => if s.cond .c then s.pushStores s.regs.pc else []
  | .rst00 | .rst08 | .rst10 | .rst18 | .rst20 | .rst28 | .rst30 | .rst38 => s.pushStores s.regs.pc
  | _ => []

/-- The condition of the sixteen conditional control transfers (R281, R284, R286, R288). -/
def Instr.condition (i : Instr) : Option Cond :=
  match i with
  | .jpNZ_nn _ => some .nz
  | .jpZ_nn _ => some .z
  | .jpNC_nn _ => some .nc
  | .jpC_nn _ => some .c
  | .jrNZ_e _ => some .nz
  | .jrZ_e _ => some .z
  | .jrNC_e _ => some .nc
  | .jrC_e _ => some .c
  | .callNZ_nn _ => some .nz
  | .callZ_nn _ => some .z
  | .callNC_nn _ => some .nc
  | .callC_nn _ => some .c
  | .retNZ => some .nz
  | .retZ => some .z
  | .retNC => some .nc
  | .retC => some .c
  | _ => none

end Sys2Proof

namespace Sys2Proof.Machine

/-- A bus after a list of byte stores, in order. -/
def Bus.writes (b : Bus) (w : List (Word × Byte)) : Bus := w.foldl (fun b w => b.write w.1 w.2) b

/-- A write to `a` is a plain store (R60, R70): it stores the byte and has no other effect. Not so in ROM space, at an I/O register
with a handler, in external RAM that is disabled, absent or a clock register, and in VRAM or OAM while blocked. -/
def Bus.storesPlainly (b : Bus) (a : Word) : Bool :=
  match regionOf a with
  | .rom _    => false
  | .vram _   => !b.vramBlocked
  | .eram _   =>
    match b.cart.ramTarget with
    | .bank _  => true
    | .absent  => false
    | .clock _ => false
  | .wram _   => true
  | .oam _    => !b.oamBlocked
  | .unused _ => true
  | .io o     =>
    match ioRegOf o with
    | .plain _ => true
    | _        => false
  | .hram _   => true
  | .ie       => true

/-- What `step` adds around a meaning: the quantum is ended where its loop is over, and a fault or refusal would pass through. -/
def settled (r : Result) : Result :=
  match r with
  | .next t    => .next t.settle
  | .fault f   => .fault f
  | .refused f => .refused f

/-- The effect a flag column gives one flag, from its old and new value. -/
def FlagEffect.holds (e : FlagEffect) (old new : Bool) : Prop :=
  match e with
  | .keep     => new = old
  | .clear    => new = false
  | .set      => new = true
  | .computed => True

/-- A packed BCD byte's decimal value. -/
def decimalOf (v : Byte) : Nat := 10 * (v.toNat / 16) + v.toNat % 16

/-- Both digits of a byte are decimal. -/
def isBcd (v : Byte) : Bool := decide (v.toNat / 16 ≤ 9) && decide (v.toNat % 16 ≤ 9)

end Sys2Proof.Machine
end

