-- ==== Sys2Proof/Certificates/Slice0/Obligations.lean ====
section
/-! DEFINITION. The statements for the provers. OBLIGATIONS.json lists them with the rules they formalise. In a statement about an
instruction, `s` has PC past the whole instruction (R26) and the equation gives the whole next state, so its right-hand side is
also the frame: what it does not update is unchanged. -/

open Sys2Proof Sys2Proof.Machine

/-! ## Encoding -/

/-- No bit of an encoding is dropped: decoding what the encoder wrote gives the instruction back, and the bytes after it (R140,
R146, R148 to R150, R305). -/
def Obligations.DecodeOfEncode : Prop :=
  ∀ (i : Instr) (rest : List Byte), decode (encode i ++ rest) = .ok (i, rest)

/-- Every byte string means at most one thing: what is decoded is spelled by exactly the bytes consumed (R152). -/
def Obligations.DecodedBytesAreTheEncoding : Prop :=
  ∀ (bs rest : List Byte) (i : Instr), decode bs = .ok (i, rest) → bs = encode i ++ rest

/-- Decoding is total on any three bytes, and gives an undefined opcode's constructor exactly for the eleven bytes of R150 in
opcode position (R150, R152). -/
def Obligations.DecodeIsTotalAndElevenOpcodesAreIllegal : Prop :=
  ∀ (b0 b1 b2 : Byte) (rest : List Byte),
    ∃ (i : Instr) (n : Nat), 1 ≤ n ∧ n ≤ 3 ∧
      decode (b0 :: b1 :: b2 :: rest) = .ok (i, (b0 :: b1 :: b2 :: rest).drop n) ∧
      (i ∈ Instr.illegals ↔
        b0.toNat ∈ [0xD3, 0xDB, 0xDD, 0xE3, 0xE4, 0xEB, 0xEC, 0xED, 0xF4, 0xFC, 0xFD]) ∧
      (i ∈ Instr.illegals → n = 1)

/-- Words written out from the spec's encodings decode to the instructions they stand for (the examples of R170, R171, R200, R203,
R231, R263, R283, R290, R306). -/
def Obligations.SampleWordsDecode : Prop :=
  decode [0x41] = .ok (.ldB_C, []) ∧
  decode [0x3E, 0x7F] = .ok (.ldA_n 0x7F, []) ∧
  decode [0x31, 0xFE, 0xFF] = .ok (.ldSP_nn 0xFFFE, []) ∧
  decode [0xF8, 0x08] = .ok (.ldHL_SPe 0x08, []) ∧
  decode [0xE6, 0x38] = .ok (.andA_n 0x38, []) ∧
  decode [0xCB, 0x7C] = .ok (.bit7_H, []) ∧
  decode [0x18, 0xFB] = .ok (.jr_e 0xFB, []) ∧
  decode [0xEF] = .ok (.rst28, []) ∧
  decode [0x3E, 0xCB] = .ok (.ldA_n 0xCB, []) ∧
  decode [0xDD] = .ok (.illegalDD, [])

/-! ## The CPU step, interrupts, standby -/

/-- A step runs the decoded instruction (R26, R32, R333): alive, budget left, nothing to dispatch (IME = 0 or nothing enabled is
pending), and not in standby unless an enabled request wakes it. The bytes at PC, PC + 1, PC + 2 decode to `i`; `exec i` gets PC
past its bytes, `halted` clear, and the delayed EI applied. `settled` appends the devices' share where the quantum is over (R391,
R392); that a model's step is one CPU step with that share appended is the model's choice (DESIGN CHOICE, log entry 2). -/
def Obligations.StepRunsTheDecodedInstruction : Prop :=
  ∀ (s : State) (i : Instr) (rest : List Byte),
    s.cpuAlive = true → s.inQuantum = true →
    (s.ime = false ∨ s.pending = 0) → (s.halted = false ∨ s.pending ≠ 0) →
    decode [s.read s.regs.pc, s.read (s.regs.pc + 1), s.read (s.regs.pc + 2)] = .ok (i, rest) →
    step s = settled (exec i
      { s with
        halted    := false
        ime       := s.ime || s.eiPending
        eiPending := false
        regs      := { s.regs with pc := s.regs.pc + BitVec.ofNat 16 (3 - rest.length) } })

/-- The end of a quantum (R391, R392, R366): a step leaves a running machine alone until its budget is used up or it dies; then
the display is stepped first and the I/O devices second, by the T-cycles consumed, the overshoot is carried (0 for a dead CPU),
and the next host input is taken. That State holds a list of coming inputs, and that the last one stays where it is empty, is the
model's choice (DESIGN CHOICE, log entry 3). -/
def Obligations.EndOfQuantumStepsTheDevices : Prop :=
  ∀ s : State,
    (s.cpuAlive = true → s.consumed + s.carry < s.quantum → s.settle = s) ∧
    (s.cpuAlive = false ∨ s.quantum ≤ s.consumed + s.carry →
      s.settle =
        { s with
          bus :=
            { ((((s.bus.ppuStep s.consumed).timerStep s.consumed).serialStep s.consumed).joypadStep) with
              input := s.inputs.headD s.bus.input }
          carry        := if s.cpuAlive = true then s.consumed + s.carry - s.quantum else 0
          consumed     := 0
          deviceCycles := s.deviceCycles + s.consumed
          inputs       := s.inputs.tail })

/-- Taking an interrupt (R204, R330, R333, R334, R335): with IME = 1 and source `i` the one dispatched, the step executes no instruction: IME,
`ei_pending` and `halted` are cleared, one bit of IF is cleared, then PC is pushed (low byte at the new SP), PC is `0x0040 + 8 * i`,
and 20 T-cycles are used. -/
def Obligations.DispatchEntersTheHandler : Prop :=
  ∀ (s : State) (i : Interrupt), s.ime = true → s.nextInterrupt = some i →
    s.cpuStep = .next
      { s with
        ime       := false
        eiPending := false
        halted    := false
        regs      := { s.regs with sp := s.regs.sp - 2, pc := BitVec.ofNat 16 (0x40 + 8 * i.bit) }
        bus       :=
          (({ s.bus with ifl := s.bus.ifl &&& ~~~(1#5 <<< i.bit) }).write (s.regs.sp - 2) (loByte s.regs.pc)).write
            (s.regs.sp - 1) (hiByte s.regs.pc)
        consumed  := s.consumed + 20
        cpuCycles := s.cpuCycles + 20 }

/-- Which interrupt, and when (R327, R328): source `i` is dispatched exactly when IME is set, its bit is set in both IE and IF, and no
lower-numbered bit is set in both. -/
def Obligations.LowestEnabledRequestIsDispatched : Prop :=
  ∀ (s : State) (i : Interrupt),
    s.wake.dispatched = some i ↔
      s.ime = true ∧ s.bus.ie.getLsbD i.bit = true ∧ s.bus.ifl.getLsbD i.bit = true ∧
        ∀ j, j < i.bit → (s.bus.ie.getLsbD j && s.bus.ifl.getLsbD j) = false

/-- Standby (R29, R301, R333, R337): while `halted` and nothing is pending a step costs 4 and changes nothing else; once an enabled
request is pending and IME = 0, the step runs the next instruction as if `halted` had been clear. -/
def Obligations.StandbyIdlesAndWakes : Prop :=
  ∀ s : State, s.halted = true →
    (s.pending = 0 → s.cpuStep = .next { s with consumed := s.consumed + 4, cpuCycles := s.cpuCycles + 4 }) ∧
    (s.pending ≠ 0 → s.ime = false → s.cpuStep = State.cpuStep { s with halted := false })

/-- The one-instruction delay of EI (R304, R431): after EI with IME = 0, the next step dispatches nothing whatever is pending, and
runs the next instruction with IME set. -/
def Obligations.EiTakesEffectOneInstructionLate : Prop :=
  ∀ s : State, s.ime = false → s.halted = false →
    ∃ t, exec .ei s = .next t ∧ t.ime = false ∧ t.wake.dispatched = none ∧
      t.cpuStep = State.runInstr { t with ime := true, eiPending := false }

/-- The fatal state (R30, R391): nothing advances, and no step makes `cpu_alive` true again. -/
def Obligations.DeadMachineIsFrozen : Prop :=
  (∀ s : State, s.cpuAlive = false → step s = .next s) ∧
  (∀ s t : State, step s = .next t → t.cpuAlive = true → s.cpuAlive = true)

/-- An illegal opcode (R306, R320): PC goes back to the illegal byte, `cpu_alive` becomes false, 4 T-cycles are used, and no
register, flag, memory byte or interrupt state changes. -/
def Obligations.IllegalOpcodesAreFatal : Prop :=
  ∀ (i : Instr) (s : State), i ∈ Instr.illegals →
    (∃ b : Byte, b.toNat ∈ [0xD3, 0xDB, 0xDD, 0xE3, 0xE4, 0xEB, 0xEC, 0xED, 0xF4, 0xFC, 0xFD] ∧ Assembles i [b]) ∧
    exec i s = .next
      { s with
        regs      := { s.regs with pc := s.regs.pc - 1 }
        cpuAlive  := false
        consumed  := s.consumed + 4
        cpuCycles := s.cpuCycles + 4 }

/-- No step faults and none is refused: from every state there is a next state. This is the model's reading (DEDUCED, log entry 4): R320
and R11 call IllegalOpcode a fault, the one synchronous one, and R320 writes its effect out, so the model takes it as a next
state; R321 and R67 say that nothing else faults, and R391 keeps a dead machine as it is. -/
def Obligations.EveryStepAnswersANextState : Prop :=
  (∀ s : State, ∃ t, step s = .next t) ∧ (∀ (i : Instr) (s : State), ∃ t, exec i s = .next t)

/-! ## Loads and the stack -/

/-- Register and immediate loads (R170, R171, R200, R202), and what writing a register operand or a pair means: that register and
no other, pairs high byte first (R21, R144, R145). -/
def Obligations.RegisterAndImmediateLoads : Prop :=
  (∀ (dst src : Reg8) (s : State), Assembles (.ldRR dst src) [byteOf (0x40 + 8 * dst.code + src.code)] ∧
    exec (.ldRR dst src) s = .next (s.after (s.regs.set dst (s.regs.get src)) s.bus 4)) ∧
  (∀ (dst : Reg8) (n : Byte) (s : State), Assembles (.ldRI n dst) [byteOf (0x06 + 8 * dst.code), n] ∧
    exec (.ldRI n dst) s = .next (s.after (s.regs.set dst n) s.bus 8)) ∧
  (∀ (rr : Reg16) (nn : Word) (s : State),
    Assembles (.ldPI nn rr) [byteOf (0x01 + 16 * rr.code), byteOf (nn.toNat % 256), byteOf (nn.toNat / 256)] ∧
    exec (.ldPI nn rr) s = .next (s.after (s.regs.set16 rr nn) s.bus 12)) ∧
  (∀ s : State, Assembles .ldSP_HL [0xF9] ∧
    exec .ldSP_HL s = .next (s.after { s.regs with sp := joinBytes s.regs.h s.regs.l } s.bus 8)) ∧
  (∀ (r : Regs) (dst src : Reg8) (v : Byte),
    (r.set dst v).get src = (if src = dst then v else r.get src) ∧
    (r.set dst v).f = r.f ∧ (r.set dst v).sp = r.sp ∧ (r.set dst v).pc = r.pc) ∧
  (∀ (r : Regs) (p p' : Reg16) (v : Word),
    (r.set16 p v).get16 p' = (if p' = p then v else r.get16 p') ∧
    (r.set16 p v).a = r.a ∧ (r.set16 p v).f = r.f ∧ (r.set16 p v).pc = r.pc)

/-- Loads from memory (R172, R175, R176, R179, R181, R183): the destination is read through the router; the bus, so every byte of
memory, is unchanged (R69), and no flag is written (R190). -/
def Obligations.LoadsFromMemory : Prop :=
  (∀ (dst : Reg8) (s : State), Assembles (.ldRM dst) [byteOf (0x46 + 8 * dst.code)] ∧
    exec (.ldRM dst) s = .next (s.after (s.regs.set dst (s.read (joinBytes s.regs.h s.regs.l))) s.bus 8)) ∧
  (∀ s : State, Assembles .ldA_MBC [0x0A] ∧
    exec .ldA_MBC s = .next (s.after { s.regs with a := s.read (joinBytes s.regs.b s.regs.c) } s.bus 8)) ∧
  (∀ s : State, Assembles .ldA_MDE [0x1A] ∧
    exec .ldA_MDE s = .next (s.after { s.regs with a := s.read (joinBytes s.regs.d s.regs.e) } s.bus 8)) ∧
  (∀ (nn : Word) (s : State),
    Assembles (.ldA_Mnn nn) [0xFA, byteOf (nn.toNat % 256), byteOf (nn.toNat / 256)] ∧
    exec (.ldA_Mnn nn) s = .next (s.after { s.regs with a := s.read nn } s.bus 16)) ∧
  (∀ (n : Byte) (s : State), Assembles (.ldhA_Mn n) [0xF0, n] ∧
    exec (.ldhA_Mn n) s =
      .next (s.after { s.regs with a := s.read (BitVec.ofNat 16 (0xFF00 + n.toNat)) } s.bus 12)) ∧
  (∀ s : State, Assembles .ldA_MC [0xF2] ∧
    exec .ldA_MC s =
      .next (s.after { s.regs with a := s.read (BitVec.ofNat 16 (0xFF00 + s.regs.c.toNat)) } s.bus 8))

/-- Stores to memory (R173, R174, R177, R178, R180, R182, R184, R201): exactly the named byte, or the two bytes of SP low first, is
written through the router at the address the operands give; no register and no flag changes (R190). -/
def Obligations.StoresToMemory : Prop :=
  (∀ (r : Reg8) (s : State), Assembles (.ldMR r) [byteOf (0x70 + r.code)] ∧
    exec (.ldMR r) s = .next (s.after s.regs (s.bus.write (joinBytes s.regs.h s.regs.l) (s.regs.get r)) 8)) ∧
  (∀ (n : Byte) (s : State), Assembles (.ldMHL_n n) [0x36, n] ∧
    exec (.ldMHL_n n) s = .next (s.after s.regs (s.bus.write (joinBytes s.regs.h s.regs.l) n) 12)) ∧
  (∀ s : State, Assembles .ldMBC_A [0x02] ∧
    exec .ldMBC_A s = .next (s.after s.regs (s.bus.write (joinBytes s.regs.b s.regs.c) s.regs.a) 8)) ∧
  (∀ s : State, Assembles .ldMDE_A [0x12] ∧
    exec .ldMDE_A s = .next (s.after s.regs (s.bus.write (joinBytes s.regs.d s.regs.e) s.regs.a) 8)) ∧
  (∀ (nn : Word) (s : State),
    Assembles (.ldMnn_A nn) [0xEA, byteOf (nn.toNat % 256), byteOf (nn.toNat / 256)] ∧
    exec (.ldMnn_A nn) s = .next (s.after s.regs (s.bus.write nn s.regs.a) 16)) ∧
  (∀ (n : Byte) (s : State), Assembles (.ldhMn_A n) [0xE0, n] ∧
    exec (.ldhMn_A n) s = .next (s.after s.regs (s.bus.write (BitVec.ofNat 16 (0xFF00 + n.toNat)) s.regs.a) 12)) ∧
  (∀ s : State, Assembles .ldMC_A [0xE2] ∧
    exec .ldMC_A s =
      .next (s.after s.regs (s.bus.write (BitVec.ofNat 16 (0xFF00 + s.regs.c.toNat)) s.regs.a) 8)) ∧
  (∀ (nn : Word) (s : State),
    Assembles (.ldMnn_SP nn) [0x08, byteOf (nn.toNat % 256), byteOf (nn.toNat / 256)] ∧
    exec (.ldMnn_SP nn) s =
      .next (s.after s.regs
        ((s.bus.write nn (byteOf (s.regs.sp.toNat % 256))).write (nn + 1) (byteOf (s.regs.sp.toNat / 256))) 20))

/-- Loads and stores that move HL by one, modulo 2^16 (R185 to R188). The load writes A before HL and the store uses the old HL. -/
def Obligations.LoadsAndStoresThatMoveHl : Prop :=
  ∀ s : State,
    Assembles .ldMHLinc_A [0x22] ∧ Assembles .ldA_MHLinc [0x2A] ∧
    Assembles .ldMHLdec_A [0x32] ∧ Assembles .ldA_MHLdec [0x3A] ∧
    exec .ldMHLinc_A s = .next (s.after (s.regs.set16 .hl (joinBytes s.regs.h s.regs.l + 1))
      (s.bus.write (joinBytes s.regs.h s.regs.l) s.regs.a) 8) ∧
    exec .ldA_MHLinc s = .next (s.after
      { s.regs.set16 .hl (joinBytes s.regs.h s.regs.l + 1) with a := s.read (joinBytes s.regs.h s.regs.l) } s.bus 8) ∧
    exec .ldMHLdec_A s = .next (s.after (s.regs.set16 .hl (joinBytes s.regs.h s.regs.l - 1))
      (s.bus.write (joinBytes s.regs.h s.regs.l) s.regs.a) 8) ∧
    exec .ldA_MHLdec s = .next (s.after
      { s.regs.set16 .hl (joinBytes s.regs.h s.regs.l - 1) with a := s.read (joinBytes s.regs.h s.regs.l) } s.bus 8)

/-- `LD HL,SP+e` and `ADD SP,e` (R203, R243): the 16-bit sum takes the displacement as signed, both carries come from the unsigned
sum of the low bytes, Z and N are cleared. -/
def Obligations.SignedDisplacementsOnSp : Prop :=
  ∀ (e : Byte) (s : State), ∃ (f : Byte) (v : Word),
    (v.toNat : Int) = ((s.regs.sp.toNat : Int) + e.toInt) % 65536 ∧
    FlagsAre f false false
      (decide (s.regs.sp.toNat % 16 + e.toNat % 16 > 0xF)) (decide (s.regs.sp.toNat % 256 + e.toNat > 0xFF)) ∧
    Assembles (.ldHL_SPe e) [0xF8, e] ∧ Assembles (.addSP_e e) [0xE8, e] ∧
    exec (.ldHL_SPe e) s = .next (s.after { s.regs.set16 .hl v with f := f } s.bus 12) ∧
    exec (.addSP_e e) s = .next (s.after { s.regs with sp := v, f := f } s.bus 16)

/-- PUSH (R204, R206): SP goes down by 2 modulo 2^16, then the low byte (C, E, L or F) is stored at the new SP and the high byte at
the new SP + 1; no flag. -/
def Obligations.PushStoresLowByteAtNewSp : Prop :=
  ∀ (rr : StackPair) (s : State), ∃ hi lo : Byte,
    (hi, lo) = (match rr with
      | .bc => (s.regs.b, s.regs.c)
      | .de => (s.regs.d, s.regs.e)
      | .hl => (s.regs.h, s.regs.l)
      | .af => (s.regs.a, s.regs.f)) ∧
    Assembles (.push rr) [byteOf (0xC5 + 16 * rr.code)] ∧
    exec (.push rr) s = .next (s.after { s.regs with sp := s.regs.sp - 2 }
      ((s.bus.write (s.regs.sp - 2) lo).write (s.regs.sp - 1) hi) 16)

/-- POP (R205, R207): the byte at SP is the low one, SP goes up by 2 modulo 2^16; POP AF keeps bits 7 to 4 of the low byte and
clears F[3:0], the other three write no flag. Memory is unchanged. -/
def Obligations.PopLoadsLowByteAtSp : Prop :=
  ∀ s : State,
    (∀ rr : StackPair, Assembles (.pop rr) [byteOf (0xC1 + 16 * rr.code)]) ∧
    exec (.pop .bc) s = .next (s.after
      { s.regs with b := s.read (s.regs.sp + 1), c := s.read s.regs.sp, sp := s.regs.sp + 2 } s.bus 12) ∧
    exec (.pop .de) s = .next (s.after
      { s.regs with d := s.read (s.regs.sp + 1), e := s.read s.regs.sp, sp := s.regs.sp + 2 } s.bus 12) ∧
    exec (.pop .hl) s = .next (s.after
      { s.regs with h := s.read (s.regs.sp + 1), l := s.read s.regs.sp, sp := s.regs.sp + 2 } s.bus 12) ∧
    ∃ f : Byte,
      FlagsAre f ((s.read s.regs.sp).getLsbD 7) ((s.read s.regs.sp).getLsbD 6) ((s.read s.regs.sp).getLsbD 5)
        ((s.read s.regs.sp).getLsbD 4) ∧
      exec (.pop .af) s = .next (s.after
        { s.regs with a := s.read (s.regs.sp + 1), f := f, sp := s.regs.sp + 2 } s.bus 12)

/-- A pop undoes a push where the stack is plain storage (R204 to R207, R24): both complete, and every register is as before. For AF
this needs F[3:0] = 0. That and the canonical arrays are what the invariant gives. -/
def Obligations.PopUndoesPush : Prop :=
  ∀ (rr : StackPair) (s : State), s.bus.Ok →
    s.bus.storesPlainly (s.regs.sp - 2) = true → s.bus.storesPlainly (s.regs.sp - 1) = true →
    s.regs.f.extractLsb' 0 4 = 0 →
    ∃ t u, exec (.push rr) s = .next t ∧ exec (.pop rr) t = .next u ∧ u.regs = s.regs ∧ u.bus = t.bus

/-! ## Arithmetic and logic -/

/-- ADD and ADC (R215, R216, R231, R232): the sum of A, the operand and, for ADC, the old Cf, as integers; A is its low byte, Cf and
Hf its carries out of bits 7 and 3. All three operand forms; memory is unchanged. -/
def Obligations.AddAndAdcAreIntegerSums : Prop :=
  ∀ (x : AluForm) (op : AluOp) (c : Bool) (s : State),
    (op = .add ∧ c = false) ∨ (op = .adc ∧ c = s.regs.f.getLsbD 4) →
    ∃ f r : Byte,
      r.toNat = (s.regs.a.toNat + (x.value s).toNat + bitNat c) % 256 ∧
      FlagsAre f (decide (r.toNat = 0)) false
        (decide (s.regs.a.toNat % 16 + (x.value s).toNat % 16 + bitNat c > 0xF))
        (decide (s.regs.a.toNat + (x.value s).toNat + bitNat c > 0xFF)) ∧
      Assembles (x.instr op) (x.bytes op) ∧
      exec (x.instr op) s = .next (s.after { s.regs with a := r, f := f } s.bus x.cost)

/-- SUB, SBC and CP (R217, R218, R222, R231, R232): the difference of A, the operand and, for SBC, the old Cf; the borrows give Cf and
Hf. CP sets SUB's flags and leaves A alone. All three operand forms; memory is unchanged. -/
def Obligations.SubSbcAndCpAreIntegerDifferences : Prop :=
  ∀ (x : AluForm) (op : AluOp) (c : Bool) (s : State),
    ((op = .sub ∨ op = .cp) ∧ c = false) ∨ (op = .sbc ∧ c = s.regs.f.getLsbD 4) →
    ∃ f r : Byte,
      (r.toNat : Int) = ((s.regs.a.toNat : Int) - (x.value s).toNat - bitNat c) % 256 ∧
      FlagsAre f (decide (r.toNat = 0)) true
        (decide (s.regs.a.toNat % 16 < (x.value s).toNat % 16 + bitNat c))
        (decide (s.regs.a.toNat < (x.value s).toNat + bitNat c)) ∧
      Assembles (x.instr op) (x.bytes op) ∧
      exec (x.instr op) s =
        .next (s.after { s.regs with a := if op = .cp then s.regs.a else r, f := f } s.bus x.cost)

/-- AND, XOR and OR (R219 to R221, R231), bit by bit: Z from the result, N = 0, Cf = 0, Hf = 1 for AND alone. All three operand
forms; memory is unchanged. -/
def Obligations.LogicOperations : Prop :=
  ∀ (x : AluForm) (op : AluOp) (s : State), op = .and ∨ op = .xor ∨ op = .or →
    ∃ f r : Byte,
      (∀ i, i < 8 → r.getLsbD i =
        (if op = .and then s.regs.a.getLsbD i && (x.value s).getLsbD i
         else if op = .xor then Bool.xor (s.regs.a.getLsbD i) ((x.value s).getLsbD i)
         else s.regs.a.getLsbD i || (x.value s).getLsbD i)) ∧
      FlagsAre f (decide (r.toNat = 0)) false (decide (op = .and)) false ∧
      Assembles (x.instr op) (x.bytes op) ∧
      exec (x.instr op) s = .next (s.after { s.regs with a := r, f := f } s.bus x.cost)

/-- INC and DEC of a register or the byte at HL (R223 to R226): by one modulo 256; Z from the result, Hf from the old low nibble, Cf
kept. For (HL) the flags follow the value computed, and exactly that byte is written. -/
def Obligations.IncrementsAndDecrementsOfBytes : Prop :=
  (∀ (r : Reg8) (s : State), ∃ f v : Byte, v.toNat = ((s.regs.get r).toNat + 1) % 256 ∧
    FlagsAre f (decide (v.toNat = 0)) false (decide ((s.regs.get r).toNat % 16 = 0xF)) (s.regs.f.getLsbD 4) ∧
    Assembles (.incR r) [byteOf (0x04 + 8 * r.code)] ∧
    exec (.incR r) s = .next (s.after { s.regs.set r v with f := f } s.bus 4)) ∧
  (∀ (r : Reg8) (s : State), ∃ f v : Byte, v.toNat = ((s.regs.get r).toNat + 255) % 256 ∧
    FlagsAre f (decide (v.toNat = 0)) true (decide ((s.regs.get r).toNat % 16 = 0)) (s.regs.f.getLsbD 4) ∧
    Assembles (.decR r) [byteOf (0x05 + 8 * r.code)] ∧
    exec (.decR r) s = .next (s.after { s.regs.set r v with f := f } s.bus 4)) ∧
  (∀ s : State, ∃ f v : Byte, v.toNat = ((s.read (joinBytes s.regs.h s.regs.l)).toNat + 1) % 256 ∧
    FlagsAre f (decide (v.toNat = 0)) false
      (decide ((s.read (joinBytes s.regs.h s.regs.l)).toNat % 16 = 0xF)) (s.regs.f.getLsbD 4) ∧
    Assembles .incMHL [0x34] ∧
    exec .incMHL s =
      .next (s.after { s.regs with f := f } (s.bus.write (joinBytes s.regs.h s.regs.l) v) 12)) ∧
  (∀ s : State, ∃ f v : Byte, v.toNat = ((s.read (joinBytes s.regs.h s.regs.l)).toNat + 255) % 256 ∧
    FlagsAre f (decide (v.toNat = 0)) true
      (decide ((s.read (joinBytes s.regs.h s.regs.l)).toNat % 16 = 0)) (s.regs.f.getLsbD 4) ∧
    Assembles .decMHL [0x35] ∧
    exec .decMHL s =
      .next (s.after { s.regs with f := f } (s.bus.write (joinBytes s.regs.h s.regs.l) v) 12))

/-- DAA (R227): the adjustment by the two tests, both on A before any adjustment; added after an addition, subtracted after a
subtraction, when Cf is only kept. -/
def Obligations.DaaAdjusts : Prop :=
  ∀ s : State, ∃ (f r : Byte) (lo hi : Bool),
    lo = (s.regs.f.getLsbD 5 || (!s.regs.f.getLsbD 6 && decide (s.regs.a.toNat % 16 > 9))) ∧
    hi = (s.regs.f.getLsbD 4 || (!s.regs.f.getLsbD 6 && decide (s.regs.a.toNat > 0x99))) ∧
    (r.toNat : Int) =
      (if s.regs.f.getLsbD 6 = true then (s.regs.a.toNat : Int) - (6 * bitNat lo + 96 * bitNat hi : Nat)
       else (s.regs.a.toNat : Int) + (6 * bitNat lo + 96 * bitNat hi : Nat)) % 256 ∧
    FlagsAre f (decide (r.toNat = 0)) (s.regs.f.getLsbD 6) false hi ∧
    Assembles .daa [0x27] ∧
    exec .daa s = .next (s.after { s.regs with a := r, f := f } s.bus 4)

/-- What DAA is for (derived from R215, R216, R227): after ADD or ADC of two packed BCD bytes, DAA leaves in A the BCD of the
decimal sum modulo 100, and in Cf its hundred. -/
def Obligations.DaaMakesDecimalSums : Prop :=
  ∀ (n : Byte) (op : AluOp) (c : Bool) (s : State),
    (op = .add ∧ c = false) ∨ (op = .adc ∧ c = s.regs.f.getLsbD 4) →
    isBcd s.regs.a = true → isBcd n = true →
    ∃ t u, exec (.aluI n op) s = .next t ∧ exec .daa t = .next u ∧
      isBcd u.regs.a = true ∧
      decimalOf u.regs.a + 100 * bitNat (u.regs.f.getLsbD 4) =
        decimalOf s.regs.a + decimalOf n + bitNat c

/-- CPL, SCF and CCF (R228 to R230): the complement of A with N = Hf = 1; Cf set; Cf inverted; Z kept in all three, Cf in CPL. -/
def Obligations.ComplementAndCarryFlagOperations : Prop :=
  ∀ s : State,
    (∃ f r : Byte, r.toNat = 255 - s.regs.a.toNat ∧
      FlagsAre f (s.regs.f.getLsbD 7) true true (s.regs.f.getLsbD 4) ∧
      Assembles .cpl [0x2F] ∧ exec .cpl s = .next (s.after { s.regs with a := r, f := f } s.bus 4)) ∧
    (∃ f : Byte, FlagsAre f (s.regs.f.getLsbD 7) false false true ∧
      Assembles .scf [0x37] ∧ exec .scf s = .next (s.after { s.regs with f := f } s.bus 4)) ∧
    (∃ f : Byte, FlagsAre f (s.regs.f.getLsbD 7) false false (!s.regs.f.getLsbD 4) ∧
      Assembles .ccf [0x3F] ∧ exec .ccf s = .next (s.after { s.regs with f := f } s.bus 4))

/-- `ADD HL,rr` (R240): the 16-bit sum modulo 2^16, with the carries out of bits 11 and 15; Z kept, N = 0. -/
def Obligations.AddHlIsA16BitSum : Prop :=
  ∀ (rr : Reg16) (s : State), ∃ (f : Byte) (v : Word),
    v.toNat = ((joinBytes s.regs.h s.regs.l).toNat + (s.regs.get16 rr).toNat) % 65536 ∧
    FlagsAre f (s.regs.f.getLsbD 7) false
      (decide ((joinBytes s.regs.h s.regs.l).toNat % 4096 + (s.regs.get16 rr).toNat % 4096 > 0x0FFF))
      (decide ((joinBytes s.regs.h s.regs.l).toNat + (s.regs.get16 rr).toNat > 0xFFFF)) ∧
    Assembles (.addHL rr) [byteOf (0x09 + 16 * rr.code)] ∧
    exec (.addHL rr) s = .next (s.after { s.regs.set16 .hl v with f := f } s.bus 8)

/-- `INC rr` and `DEC rr` (R241, R242): by one modulo 2^16; no flag, not even on wrap. -/
def Obligations.IncrementsAndDecrementsOfPairs : Prop :=
  (∀ (rr : Reg16) (s : State), ∃ v : Word, v.toNat = ((s.regs.get16 rr).toNat + 1) % 65536 ∧
    Assembles (.incP rr) [byteOf (0x03 + 16 * rr.code)] ∧
    exec (.incP rr) s = .next (s.after (s.regs.set16 rr v) s.bus 8)) ∧
  (∀ (rr : Reg16) (s : State), ∃ v : Word, v.toNat = ((s.regs.get16 rr).toNat + 65535) % 65536 ∧
    Assembles (.decP rr) [byteOf (0x0B + 16 * rr.code)] ∧
    exec (.decP rr) s = .next (s.after (s.regs.set16 rr v) s.bus 8))

/-! ## Rotates, shifts, bits -/

/-- The accumulator rotates (R250 to R253): RLCA, RRCA, RLA, RRA do what RLC, RRC, RL, RR do to A, with Z cleared even when the
result is 0. -/
def Obligations.AccumulatorRotatesClearZ : Prop :=
  ∀ (op : RotOp) (i : Instr) (b : Byte) (s : State),
    (op, i, b) ∈ [(RotOp.rlc, Instr.rlca, 0x07#8), (.rrc, .rrca, 0x0F#8), (.rl, .rla, 0x17#8), (.rr, .rra, 0x1F#8)] →
    ∃ f r : Byte,
      r.toNat = (rotResult op s.regs.a.toNat (s.regs.f.getLsbD 4)).1 ∧
      FlagsAre f false false false (rotResult op s.regs.a.toNat (s.regs.f.getLsbD 4)).2 ∧
      Assembles i [b] ∧ exec i s = .next (s.after { s.regs with a := r, f := f } s.bus 4)

/-- The CB-prefixed rotates, shifts and SWAP (R254 to R262) on every operand: the result by integer arithmetic, Z from it, N = Hf = 0,
Cf the bit moved out; (HL) is read once and written once, and the flags follow the value computed. -/
def Obligations.RotatesAndShifts : Prop :=
  ∀ (op : RotOp) (o : Operand) (s : State), ∃ f w : Byte,
    w.toNat = (rotResult op (o.value s).toNat (s.regs.f.getLsbD 4)).1 ∧
    FlagsAre f (decide (w.toNat = 0)) false false (rotResult op (o.value s).toNat (s.regs.f.getLsbD 4)).2 ∧
    Assembles (o.rot op) [0xCB, byteOf (8 * op.code + o.code)] ∧
    exec (o.rot op) s = .next (s.after { o.regsAfter s w with f := f } (o.busAfter s w) o.cost)

/-- BIT (R263): Z is the complement of the bit, N = 0, Hf = 1, Cf kept; nothing else is written, and for (HL) memory is read and not
written, at 12 T-cycles. -/
def Obligations.BitTests : Prop :=
  ∀ (b : Fin 8) (o : Operand) (s : State), ∃ f : Byte,
    FlagsAre f (!(o.value s).getLsbD b.val) false true (s.regs.f.getLsbD 4) ∧
    Assembles (o.bit b) [0xCB, byteOf (0x40 + 8 * b.val + o.code)] ∧
    exec (o.bit b) s =
      .next (s.after { s.regs with f := f } s.bus (match o with | .reg _ => 8 | .mem => 12))

/-- RES and SET (R264, R265): exactly bit `b` of the operand becomes 0 or 1, no flag; (HL) is written even when the bit had that
value. -/
def Obligations.BitClearsAndSets : Prop :=
  ∀ (b : Fin 8) (o : Operand) (s : State),
    (∃ w : Byte, (∀ i, i < 8 → w.getLsbD i = (if i = b.val then false else (o.value s).getLsbD i)) ∧
      Assembles (o.res b) [0xCB, byteOf (0x80 + 8 * b.val + o.code)] ∧
      exec (o.res b) s = .next (s.after (o.regsAfter s w) (o.busAfter s w) o.cost)) ∧
    (∃ w : Byte, (∀ i, i < 8 → w.getLsbD i = (if i = b.val then true else (o.value s).getLsbD i)) ∧
      Assembles (o.set b) [0xCB, byteOf (0xC0 + 8 * b.val + o.code)] ∧
      exec (o.set b) s = .next (s.after (o.regsAfter s w) (o.busAfter s w) o.cost))

/-! ## Control transfers and system instructions -/

/-- Jumps (R280 to R284, R291): PC is the immediate, HL, or the PC after the instruction plus the signed displacement modulo 2^16; a
conditional jump whose condition is false changes nothing and costs less. No flag, no memory, no other register. -/
def Obligations.Jumps : Prop :=
  (∀ (nn : Word) (s : State), Assembles (.jp_nn nn) [0xC3, byteOf (nn.toNat % 256), byteOf (nn.toNat / 256)] ∧
    exec (.jp_nn nn) s = .next (s.after { s.regs with pc := nn } s.bus 16)) ∧
  (∀ (cc : Cond) (nn : Word) (s : State),
    Assembles (.jpCC nn cc) [byteOf (0xC2 + 8 * cc.code), byteOf (nn.toNat % 256), byteOf (nn.toNat / 256)] ∧
    exec (.jpCC nn cc) s =
      .next (if condHolds cc s.regs.f = true then s.after { s.regs with pc := nn } s.bus 16
             else s.after s.regs s.bus 12)) ∧
  (∀ s : State, Assembles .jpHL [0xE9] ∧
    exec .jpHL s = .next (s.after { s.regs with pc := joinBytes s.regs.h s.regs.l } s.bus 4)) ∧
  (∀ (e : Byte) (s : State), ∃ t : Word, (t.toNat : Int) = ((s.regs.pc.toNat : Int) + e.toInt) % 65536 ∧
    Assembles (.jr_e e) [0x18, e] ∧
    exec (.jr_e e) s = .next (s.after { s.regs with pc := t } s.bus 12) ∧
    ∀ cc : Cond, Assembles (.jrCC e cc) [byteOf (0x20 + 8 * cc.code), e] ∧
      exec (.jrCC e cc) s =
        .next (if condHolds cc s.regs.f = true then s.after { s.regs with pc := t } s.bus 12
               else s.after s.regs s.bus 8))

/-- Calls (R204, R285, R286, R290): the PC after the instruction is pushed, low byte at the new SP, and PC is the target, `8 * t` for
RST; a conditional call whose condition is false touches neither SP nor memory. -/
def Obligations.Calls : Prop :=
  ∀ s : State, ∃ (sp : Word) (b : Bus),
    sp = s.regs.sp - 2 ∧
    b = (s.bus.write (s.regs.sp - 2) (byteOf (s.regs.pc.toNat % 256))).write (s.regs.sp - 1)
      (byteOf (s.regs.pc.toNat / 256)) ∧
    (∀ nn : Word, Assembles (.call_nn nn) [0xCD, byteOf (nn.toNat % 256), byteOf (nn.toNat / 256)] ∧
      exec (.call_nn nn) s = .next (s.after { s.regs with sp := sp, pc := nn } b 24)) ∧
    (∀ (cc : Cond) (nn : Word),
      Assembles (.callCC nn cc) [byteOf (0xC4 + 8 * cc.code), byteOf (nn.toNat % 256), byteOf (nn.toNat / 256)] ∧
      exec (.callCC nn cc) s =
        .next (if condHolds cc s.regs.f = true then s.after { s.regs with sp := sp, pc := nn } b 24
               else s.after s.regs s.bus 12)) ∧
    (∀ t : Fin 8, Assembles (.rst t) [byteOf (0xC7 + 8 * t.val)] ∧
      exec (.rst t) s =
        .next (s.after { s.regs with sp := sp, pc := BitVec.ofNat 16 (8 * t.val) } b 16))

/-- Returns (R205, R287, R288, R289): PC is the word at SP, SP goes up by 2; RETI also sets IME at once and clears `ei_pending`; RET
touches neither. A conditional return whose condition is false changes nothing. -/
def Obligations.Returns : Prop :=
  ∀ s : State, ∃ r : Regs,
    r = { s.regs with sp := s.regs.sp + 2, pc := joinBytes (s.read (s.regs.sp + 1)) (s.read s.regs.sp) } ∧
    Assembles .ret [0xC9] ∧ exec .ret s = .next (s.after r s.bus 16) ∧
    Assembles .reti [0xD9] ∧
    exec .reti s = .next { s.after r s.bus 16 with ime := true, eiPending := false } ∧
    ∀ cc : Cond, Assembles (.retCC cc) [byteOf (0xC0 + 8 * cc.code)] ∧
      exec (.retCC cc) s =
        .next (if condHolds cc s.regs.f = true then s.after r s.bus 20 else s.after s.regs s.bus 8)

/-- A return undoes a call where the stack is plain storage (R285, R287): both complete, and every register, PC included, is as it was
after the CALL was fetched. The arrays are in canonical form, as the invariant says. -/
def Obligations.ReturnUndoesCall : Prop :=
  ∀ (nn : Word) (s : State), s.bus.Ok →
    s.bus.storesPlainly (s.regs.sp - 2) = true → s.bus.storesPlainly (s.regs.sp - 1) = true →
    ∃ t u, exec (.call_nn nn) s = .next t ∧ exec .ret t = .next u ∧ u.regs = s.regs ∧ u.bus = t.bus

/-- NOP, HALT, STOP, DI and EI (R300 to R304): nothing; `halted` set (STOP's second byte is ignored); IME and `ei_pending` cleared;
`ei_pending` set. Each costs 4 and changes nothing else. -/
def Obligations.SystemInstructions : Prop :=
  ∀ s : State,
    (Assembles .nop [0x00] ∧ exec .nop s = .next (s.after s.regs s.bus 4)) ∧
    (Assembles .halt [0x76] ∧ exec .halt s = .next { s.after s.regs s.bus 4 with halted := true }) ∧
    (∀ n : Byte, Assembles (.stop n) [0x10, n] ∧
      exec (.stop n) s = .next { s.after s.regs s.bus 4 with halted := true }) ∧
    (Assembles .di [0xF3] ∧ exec .di s = .next { s.after s.regs s.bus 4 with ime := false, eiPending := false }) ∧
    (Assembles .ei [0xFB] ∧ exec .ei s = .next { s.after s.regs s.bus 4 with eiPending := true })

/-! ## All instructions at once -/

/-- Every instruction costs what the tables of R148 and R149 say, whatever registers, memory and devices hold (R394, R440): only the
condition of a conditional transfer matters. -/
def Obligations.CostsAreTheDocumentedOnes : Prop :=
  ∀ (i : Instr) (s : State), ∃ t, exec i s = .next t ∧
    ∃ n, n = documentedCost ((encode i).getD 0 0) ((encode i).getD 1 0)
        (match i.condition with | some cc => condHolds cc s.regs.f | none => false) ∧
      t.consumed = s.consumed + n ∧ t.cpuCycles = s.cpuCycles + n ∧ 4 ≤ n ∧ n ≤ 24 ∧ n % 4 = 0

/-- Every instruction treats the four flags as its flag column in opcode_table.json says (R25, R153): a `-` flag is kept, a `0` is
cleared, a `1` is set; and F[3:0] stays 0 (R24). -/
def Obligations.FlagsFollowTheirColumns : Prop :=
  ∀ (i : Instr) (s : State), ∃ t, exec i s = .next t ∧
    ∃ k, k = documentedFlags ((encode i).getD 0 0) ((encode i).getD 1 0) ∧
      k.z.holds (s.regs.f.getLsbD 7) (t.regs.f.getLsbD 7) ∧
      k.n.holds (s.regs.f.getLsbD 6) (t.regs.f.getLsbD 6) ∧
      k.h.holds (s.regs.f.getLsbD 5) (t.regs.f.getLsbD 5) ∧
      k.c.holds (s.regs.f.getLsbD 4) (t.regs.f.getLsbD 4) ∧
      (s.regs.f.extractLsb' 0 4 = 0 → t.regs.f.extractLsb' 0 4 = 0)

/-- An instruction reaches memory, devices and the cartridge only through its byte stores, made in order through the router (R33, R68,
R71): where it stores nothing, the whole bus is unchanged. The quantum, the carry, the device cycles and the waiting inputs are
never touched by an instruction. -/
def Obligations.InstructionsReachTheBusOnlyThroughTheirStores : Prop :=
  ∀ (i : Instr) (s : State), ∃ t, exec i s = .next t ∧ t.bus = s.bus.writes (i.stores s) ∧
    t.quantum = s.quantum ∧ t.carry = s.carry ∧ t.deviceCycles = s.deviceCycles ∧ t.inputs = s.inputs

/-- A plain store (R60, R61, R71 (c)): the byte written is the byte read back, at every address of the same storage byte (the mirror
included), and every address of any other storage byte reads as before. The arrays are in canonical form, as the invariant says. -/
def Obligations.PlainStoresReadBack : Prop :=
  ∀ (b : Bus) (a a' : Word) (v : Byte), b.Ok → b.storesPlainly a = true →
    (b.write a v).read a' = if regionOf a' = regionOf a then v else b.read a'

/-- The memory frame of every instruction (R68, R71): where the addresses it stores to are plain storage, each reads back its byte, and
every byte of memory outside them reads as before. A form that stores nothing leaves every byte. The arrays are in canonical
form, as the invariant says. -/
def Obligations.MemoryOutsideTheStoresIsUnchanged : Prop :=
  ∀ (i : Instr) (s : State), s.bus.Ok → (∀ w ∈ i.stores s, s.bus.storesPlainly w.1 = true) →
    ∃ t, exec i s = .next t ∧ (∀ w ∈ i.stores s, t.read w.1 = w.2) ∧
      ∀ a : Word, (∀ w ∈ i.stores s, regionOf a ≠ regionOf w.1) → t.read a = s.read a

/-! ## The router, the cartridge, DMA -/

/-- The mirror and the word accessors (R61, R64, R65, R66): 0xE000-0xFDFF is a second window on WRAM; a word is two byte accesses,
low byte at the lower address, low address first, addresses modulo 2^16. -/
def Obligations.MirrorAndWordAccesses : Prop :=
  (∀ (b : Bus) (a : Word) (v : Byte), 0xE000 ≤ a.toNat → a.toNat ≤ 0xFDFF →
    b.read a = b.read (a - 0x2000) ∧ b.write a v = b.write (a - 0x2000) v) ∧
  (∀ (s : State) (a : Word), (s.read16 a).toNat = 256 * (s.read (a + 1)).toNat + (s.read a).toNat) ∧
  (∀ (s : State) (a v : Word),
    s.write16 a v =
      { s with bus := (s.bus.write a (byteOf (v.toNat % 256))).write (a + 1) (byteOf (v.toNat / 256)) })

/-- Blocking (R90): with contention and the LCD on, VRAM in mode 3 and OAM in modes 2 and 3 read 0xFF and drop writes; at every other
time they are plain. -/
def Obligations.VideoMemoryIsBlockedByMode : Prop :=
  ∀ (b : Bus) (a : Word) (v : Byte),
    (0x8000 ≤ a.toNat → a.toNat ≤ 0x9FFF →
      if b.contention = true ∧ b.ppu.lcdc.getLsbD 7 = true ∧ b.ppu.mode = .transfer then
        b.read a = 0xFF ∧ b.write a v = b
      else b.read a = cellGet b.vram (a.toNat - 0x8000) ∧
        b.write a v = { b with vram := cellSet b.vram (a.toNat - 0x8000) v }) ∧
    (0xFE00 ≤ a.toNat → a.toNat ≤ 0xFE9F →
      if b.contention = true ∧ b.ppu.lcdc.getLsbD 7 = true ∧ (b.ppu.mode = .oamScan ∨ b.ppu.mode = .transfer) then
        b.read a = 0xFF ∧ b.write a v = b
      else b.read a = cellGet b.oam (a.toNat - 0xFE00) ∧
        b.write a v = { b with oam := cellSet b.oam (a.toNat - 0xFE00) v })

/-- The boot overlay (R44, R86), and that no write changes a ROM byte (R63): the overlay answers 0x0000-0x00FF exactly while it is
present and `boot_off = 0`; a write anywhere in 0x0000-0x7FFF, the overlay's addresses included, reaches the cartridge's bank
controller and changes nothing else; writing 0xFF50 turns the overlay off for good when bit 0 is set. -/
def Obligations.OverlayAndRomAreNeverWritten : Prop :=
  (∀ (b : Bus) (m : Memory) (a : Word), b.boot = some m → b.bootOff = false → a.toNat ≤ 0xFF →
    b.read a = cellGet m a.toNat) ∧
  (∀ (b : Bus) (a : Word), a.toNat ≤ 0x7FFF → b.boot = none ∨ b.bootOff = true ∨ 0xFF < a.toNat →
    b.read a = b.cart.readRom a.toNat) ∧
  (∀ (b : Bus) (a : Word) (v : Byte), a.toNat ≤ 0x7FFF →
    b.write a v = { b with cart := b.cart.writeRom a.toNat v }) ∧
  (∀ (b : Bus) (v : Byte), b.write 0xFF50 v = { b with bootOff := b.bootOff || v.getLsbD 0 }) ∧
  (∀ (b : Bus) (a : Word) (v : Byte),
    (b.write a v).boot = b.boot ∧ (b.write a v).cart.rom = b.cart.rom ∧ (b.write a v).cart.romLen = b.cart.romLen ∧
    (b.bootOff = true → (b.write a v).bootOff = true))

/-- The I/O registers of R34 to R43 (R81, R82): what each reads right after a CPU write (the stored bits are the written ones, the bits
that are not stored read 1, LY ignores the write, DIV is zeroed, STAT keeps its mode and comparison bits), what P1 reads, and
that a write changes its own register and nothing else. A write to LCDC (R383) that switches the LCD off clears LY, `dot`,
`mode` and `window_line`; one that switches it on clears LY, `dot` and `window_line` and enters mode 2, where the comparison bit is
recomputed and LCD_STAT requested as R375 says; any other changes LCDC alone. -/
def Obligations.IoRegistersReadBack : Prop :=
  (∀ (b : Bus) (v : Byte),
    (b.write 0xFF00 v).read 0xFF00 &&& 0xF0 = (v &&& 0x30) ||| 0xC0 ∧
    (b.write 0xFF01 v).read 0xFF01 = v ∧
    (b.write 0xFF02 v).read 0xFF02 = v ||| 0x7E ∧
    (b.write 0xFF04 v).read 0xFF04 = 0 ∧
    (b.write 0xFF05 v).read 0xFF05 = v ∧
    (b.write 0xFF06 v).read 0xFF06 = v ∧
    (b.write 0xFF07 v).read 0xFF07 = v ||| 0xF8 ∧
    (b.write 0xFF0F v).read 0xFF0F = v ||| 0xE0 ∧
    (b.write 0xFF40 v).read 0xFF40 = v ∧
    (b.write 0xFF41 v).read 0xFF41 = 0x80 ||| (v &&& 0x78) ||| (b.read 0xFF41 &&& 0x07) ∧
    (b.write 0xFF42 v).read 0xFF42 = v ∧ (b.write 0xFF43 v).read 0xFF43 = v ∧
    b.write 0xFF44 v = b ∧
    (b.write 0xFF45 v).read 0xFF45 = v ∧ (b.write 0xFF46 v).read 0xFF46 = v ∧
    (b.write 0xFF47 v).read 0xFF47 = v ∧ (b.write 0xFF48 v).read 0xFF48 = v ∧ (b.write 0xFF49 v).read 0xFF49 = v ∧
    (b.write 0xFF4A v).read 0xFF4A = v ∧ (b.write 0xFF4B v).read 0xFF4B = v ∧
    (b.write 0xFF50 v).read 0xFF50 = (b.read 0xFF50 ||| (v &&& 0x01)) ||| 0xFE ∧
    (b.write 0xFFFF v).read 0xFFFF = v) ∧
  (∀ b : Bus, (b.read 0xFF00).toNat = 0xC0 + 32 * bitNat b.selAction + 16 * bitNat b.selDir + b.joyLow.toNat) ∧
  (∀ (b : Bus) (v : Byte),
    b.write 0xFF00 v = { b with selAction := v.getLsbD 5, selDir := v.getLsbD 4 } ∧
    b.write 0xFF01 v = { b with serial := { b.serial with sb := v } } ∧
    b.write 0xFF04 v = { b with timer := { b.timer with sysclk := 0 } } ∧
    b.write 0xFF05 v = { b with timer := { b.timer with tima := v } } ∧
    b.write 0xFF06 v = { b with timer := { b.timer with tma := v } } ∧
    b.write 0xFF07 v = { b with timer := { b.timer with tac := BitVec.ofNat 3 (v.toNat % 8) } } ∧
    b.write 0xFF0F v = { b with ifl := BitVec.ofNat 5 (v.toNat % 32) } ∧
    b.write 0xFF41 v = { b with ppu := { b.ppu with statEnable := BitVec.ofNat 4 (v.toNat / 8 % 16) } } ∧
    b.write 0xFF42 v = { b with ppu := { b.ppu with scy := v } } ∧
    b.write 0xFF43 v = { b with ppu := { b.ppu with scx := v } } ∧
    b.write 0xFF45 v = { b with ppu := { b.ppu with lyc := v } } ∧
    b.write 0xFF47 v = { b with ppu := { b.ppu with bgp := v } } ∧
    b.write 0xFF48 v = { b with ppu := { b.ppu with obp0 := v } } ∧
    b.write 0xFF49 v = { b with ppu := { b.ppu with obp1 := v } } ∧
    b.write 0xFF4A v = { b with ppu := { b.ppu with wy := v } } ∧
    b.write 0xFF4B v = { b with ppu := { b.ppu with wx := v } } ∧
    b.write 0xFFFF v = { b with ie := v }) ∧
  (∀ (b : Bus) (v : Byte),
    (b.ppu.lcdc.getLsbD 7 = true → v.getLsbD 7 = false →
      b.write 0xFF40 v =
        { b with ppu := { b.ppu with lcdc := v, ly := 0, dot := 0, mode := .hblank, windowLine := 0 } }) ∧
    (b.ppu.lcdc.getLsbD 7 = false → v.getLsbD 7 = true →
      b.write 0xFF40 v =
        { b with
          ppu :=
            { b.ppu with
              lcdc := v, ly := 0, dot := 0, windowLine := 0, mode := .oamScan, coincidence := decide (b.ppu.lyc = 0) }
          ifl :=
            if (b.ppu.mode ≠ .oamScan ∧ b.ppu.statEnable.getLsbD 2 = true) ∨
                (b.ppu.lyc = 0 ∧ b.ppu.coincidence = false ∧ b.ppu.statEnable.getLsbD 3 = true) then
              b.ifl ||| 0b00010#5
            else b.ifl }) ∧
    (b.ppu.lcdc.getLsbD 7 = v.getLsbD 7 → b.write 0xFF40 v = { b with ppu := { b.ppu with lcdc := v } }))

/-- The sprite-table copy (R96, R91): a write of `v` to 0xFF46 makes each of the 160 OAM bytes what the router reads at
`v * 256 + i`, blocking included, whether OAM is blocked or not. Any `v` is accepted; from page 0xFF the byte of the DMA register
itself is the value just written. Of the rest of the bus only the DMA register changes. The arrays are in canonical form, as the
invariant says. -/
def Obligations.DmaCopiesThroughTheRouter : Prop :=
  ∀ (b : Bus) (v : Byte), b.Ok →
    (∀ i, i < 160 → cellGet (b.write 0xFF46 v).oam i =
      if v = 0xFF ∧ i = 0x46 then 0xFF else b.read (BitVec.ofNat 16 (256 * v.toNat + i))) ∧
    b.write 0xFF46 v = { b with ppu := { b.ppu with dma := v }, oam := (b.write 0xFF46 v).oam }

/-- The cartridge's bank controllers. Effective bank indices (R53 (e), R128): for a legal cartridge every ROM index is below
`rom_bank_count` and every RAM bank below `ram_bank_count`, whatever was written to the bank registers. The ROM byte an address
reads is the one of its effective bank (R105). External RAM reaches nothing, a RAM bank or a clock register (R130, R120): a
clock register reads its latched copy and a write changes the live one under its mask (R122), at every offset. Then, for each
variant, what a write to each of its address ranges changes (R110, R112, R118, R121, R124) and which banks its registers select
(R110, R113, R119, R120, R125), the worked case of R128 included. -/
def Obligations.BankIndicesAreMasked : Prop :=
  (∀ c : Cart, c.Ok → c.lowBank < c.romBanks ∧ c.highBank < c.romBanks ∧
    (∀ n, c.ramTarget = .bank n → n < c.ramBanks)) ∧
  (∀ (c : Cart) (a : Nat), a ≤ 0x7FFF →
    ∃ i, i = (if a ≤ 0x3FFF then 0x4000 * c.lowBank + a else 0x4000 * c.highBank + (a - 0x4000)) ∧
      c.readRom a = if i < c.romLen then cellGet c.rom i else 0xFF) ∧
  (∀ (b : Bus) (a : Word) (v : Byte), 0xA000 ≤ a.toNat → a.toNat ≤ 0xBFFF →
    (b.cart.ramTarget = .absent → b.read a = 0xFF ∧ b.write a v = b) ∧
    (∀ n, b.cart.ramTarget = .bank n →
      b.read a = cellGet b.cart.eram (0x2000 * n + (a.toNat - 0xA000)) ∧
      b.write a v =
        { b with cart := { b.cart with eram := cellSet b.cart.eram (0x2000 * n + (a.toNat - 0xA000)) v } }) ∧
    (∀ i, b.cart.ramTarget = .clock i →
      b.read a = b.cart.rtcLatched.get i ∧
      b.write a v = { b with cart := { b.cart with rtc := b.cart.rtc.set i v } })) ∧
  (∀ (r : Rtc) (v : Byte) (i j : Nat), i < 5 → j < 5 →
    [r.get 0, r.get 1, r.get 2, r.get 3, r.get 4] = [r.seconds, r.minutes, r.hours, r.dayLow, r.dayHigh] ∧
    (r.set i v).get j =
      if j = i then v &&& [0x3F#8, 0x3F#8, 0x1F#8, 0xFF#8, 0xC1#8].getD i 0 else r.get j) ∧
  (∀ (c : Cart) (a : Nat) (v : Byte), c.variant = .noMbc → a ≤ 0x7FFF →
    c.writeRom a v = c ∧ c.lowBank = 0 ∧ c.highBank = 1 ∧
    c.ramTarget = (if c.ramBanks = 0 then .absent else .bank 0)) ∧
  (∀ (c : Cart) (a : Nat) (v : Byte), c.variant = .mbc1 →
    (a ≤ 0x1FFF → c.writeRom a v = { c with ramEnable := decide (v.toNat % 16 = 0xA) }) ∧
    (0x2000 ≤ a → a ≤ 0x3FFF →
      c.writeRom a v = { c with romBankLo := byteOf (if v.toNat % 32 = 0 then 1 else v.toNat % 32) } ∧
      (c.writeRom a v).highBank =
        c.romMask (32 * c.romBankHi.toNat + (if v.toNat % 32 = 0 then 1 else v.toNat % 32))) ∧
    (0x4000 ≤ a → a ≤ 0x5FFF →
      c.writeRom a v = { c with romBankHi := BitVec.ofNat 2 (v.toNat % 4) } ∧
      (c.romBankLo.toNat ≤ 0x1F →
        (c.writeRom a v).highBank = c.romMask (32 * (v.toNat % 4) + c.romBankLo.toNat))) ∧
    (0x6000 ≤ a → a ≤ 0x7FFF → c.writeRom a v = { c with mbc1Mode := v.getLsbD 0 }) ∧
    c.lowBank = (if c.mbc1Mode = true then c.romMask (32 * c.romBankHi.toNat) else 0) ∧
    (c.romBankLo.toNat ≤ 0x1F → c.highBank = c.romMask (32 * c.romBankHi.toNat + c.romBankLo.toNat)) ∧
    c.ramTarget =
      (if c.ramEnable = false ∨ c.ramBanks = 0 then .absent
       else .bank (if c.mbc1Mode = true then c.ramMask c.romBankHi.toNat else 0))) ∧
  (∀ (c : Cart) (a : Nat) (v : Byte), c.variant = .mbc3 →
    (a ≤ 0x1FFF → c.writeRom a v = { c with ramEnable := decide (v.toNat % 16 = 0xA) }) ∧
    (0x2000 ≤ a → a ≤ 0x3FFF →
      c.writeRom a v = { c with romBankLo := byteOf (if v.toNat % 128 = 0 then 1 else v.toNat % 128) } ∧
      (c.writeRom a v).highBank = c.romMask (if v.toNat % 128 = 0 then 1 else v.toNat % 128)) ∧
    (0x4000 ≤ a → a ≤ 0x5FFF → c.writeRom a v = { c with ramBank := BitVec.ofNat 4 (v.toNat % 16) }) ∧
    (0x6000 ≤ a → a ≤ 0x7FFF →
      c.writeRom a v =
        if c.hasRtc = true then
          { c with rtcLatched := if c.latchPrev = 0 ∧ v = 1 then c.rtc else c.rtcLatched, latchPrev := v }
        else c) ∧
    c.lowBank = 0 ∧ c.highBank = c.romMask c.romBankLo.toNat ∧
    c.ramTarget =
      (if c.ramEnable = false then .absent
       else if c.ramBank.toNat ≤ 7 then (if c.ramBanks = 0 then .absent else .bank (c.ramMask c.ramBank.toNat))
       else if c.hasRtc = true ∧ c.ramBank.toNat ≤ 0xC then .clock (c.ramBank.toNat - 8)
       else .absent)) ∧
  (∀ (c : Cart) (a : Nat) (v : Byte), c.variant = .mbc5 →
    (a ≤ 0x1FFF → c.writeRom a v = { c with ramEnable := decide (v.toNat % 16 = 0xA) }) ∧
    (0x2000 ≤ a → a ≤ 0x2FFF →
      c.writeRom a v = { c with romBankLo := v } ∧
      (c.writeRom a v).highBank = c.romMask (256 * c.romBankHi.toNat + v.toNat)) ∧
    (0x3000 ≤ a → a ≤ 0x3FFF →
      c.writeRom a v = { c with romBankHi := BitVec.ofNat 2 (v.toNat % 2) } ∧
      (c.writeRom a v).highBank = c.romMask (256 * (v.toNat % 2) + c.romBankLo.toNat)) ∧
    (0x4000 ≤ a → a ≤ 0x5FFF → c.writeRom a v = { c with ramBank := BitVec.ofNat 4 (v.toNat % 16) }) ∧
    (0x6000 ≤ a → a ≤ 0x7FFF → c.writeRom a v = c) ∧
    c.lowBank = 0 ∧ c.highBank = c.romMask (256 * c.romBankHi.toNat + c.romBankLo.toNat) ∧
    c.ramTarget =
      (if c.ramEnable = false ∨ c.ramBanks = 0 then .absent else .bank (c.ramMask c.ramBank.toNat))) ∧
  (∀ (c : Cart) (a a' : Nat), c.variant = .mbc5 → c.romBanks = 64 →
    0x2000 ≤ a → a ≤ 0x2FFF → 0x3000 ≤ a' → a' ≤ 0x3FFF →
    ((c.writeRom a 0x82).writeRom a' 0x00).highBank = 2)

/-! ## Devices -/

/-- The timer in closed form (R350): `c` T-cycles move `sysclk` by `c` modulo 2^16; with TAC[2] = 1 TIMA is incremented exactly
`(s + c) / p - s / p` times, with TAC[2] = 0 never. An increment of 0xFF reloads TMA and requests TIMER, any other adds 1 (R351);
TMA, TAC and everything outside the timer but IF[2] stay as they were. -/
def Obligations.TimerStepInClosedForm : Prop :=
  (∀ (c : Nat) (b : Bus), ∃ (p k : Nat) (b' : Bus),
    p = (match b.timer.tac.toNat % 4 with | 0 => 1024 | 1 => 16 | 2 => 64 | _ => 256) ∧
    k = (b.timer.sysclk.toNat + c) / p - b.timer.sysclk.toNat / p ∧
    b' = { b with timer := { b.timer with sysclk := b.timer.sysclk + BitVec.ofNat 16 c } } ∧
    b.timerStep c = (if b.timer.tac.getLsbD 2 = true then Nat.iterate Bus.timaInc k b' else b')) ∧
  (∀ b : Bus,
    (b.timer.tima.toNat = 0xFF →
      b.timaInc = { b with timer := { b.timer with tima := b.timer.tma }, ifl := b.ifl ||| 0b00100#5 }) ∧
    (b.timer.tima.toNat ≠ 0xFF →
      b.timaInc = { b with timer := { b.timer with tima := BitVec.ofNat 8 (b.timer.tima.toNat + 1) } }))

/-- The serial port (R360): while an internally clocked transfer runs, `c` T-cycles count it down, and when the countdown is used up
SB is 0xFF, SC[7] is clear and IF[3] is set; with the external clock, or no transfer, nothing happens. A write to SC (R82) stores its
two bits, starts the countdown where both are set, and changes nothing else. -/
def Obligations.SerialTransferCompletes : Prop :=
  ∀ (c : Nat) (b : Bus),
    (b.serial.transfer = false ∨ b.serial.internal = false → b.serialStep c = b) ∧
    (b.serial.transfer = true → b.serial.internal = true → c < b.serial.count →
      b.serialStep c = { b with serial := { b.serial with count := b.serial.count - c } }) ∧
    (b.serial.transfer = true → b.serial.internal = true → b.serial.count ≤ c →
      b.serialStep c =
        { b with serial := ⟨0xFF, false, true, 0⟩, ifl := b.ifl ||| 0b01000#5 }) ∧
    (∀ v : Byte, b.write 0xFF02 v =
      { b with serial :=
        ⟨b.serial.sb, v.getLsbD 7, v.getLsbD 0,
          if v.getLsbD 7 = true ∧ v.getLsbD 0 = true then 4096 else b.serial.count⟩ })

/-- The joypad (R364, R365): each line of P1 is low exactly when a pressed button of a selected group is on it; the step requests
JOYPAD exactly when a line went from 1 to 0 since the last one. -/
def Obligations.JoypadLinesAndEdges : Prop :=
  ∀ b : Bus,
    b.joyLow.getLsbD 0 = !((!b.selDir && b.input.right) || (!b.selAction && b.input.a)) ∧
    b.joyLow.getLsbD 1 = !((!b.selDir && b.input.left) || (!b.selAction && b.input.b)) ∧
    b.joyLow.getLsbD 2 = !((!b.selDir && b.input.up) || (!b.selAction && b.input.select)) ∧
    b.joyLow.getLsbD 3 = !((!b.selDir && b.input.down) || (!b.selAction && b.input.start)) ∧
    b.joypadStep =
      { b with
        joyPrev := b.joyLow
        ifl := if (∃ i, i < 4 ∧ b.joyPrev.getLsbD i = true ∧ b.joyLow.getLsbD i = false) then b.ifl ||| 0b10000#5
               else b.ifl }

/-- The frame (R370 to R372, R376, R385): from the start of scanline 0 with the LCD on, 70224 T-cycles return to the start of scanline
0, having published exactly one frame and requested VBLANK; and stepping by `m` and then by `n` is stepping by `m + n`, so a
quantum's size moves no display event. What each crossing of a mode boundary does (R372): `p` is the display controller with `dot`
advanced past the mode it leaves. At the entry of vertical-blank (R376) VBLANK is requested, the frame is counted and the
front framebuffer becomes the finished back one (the two are swapped: D31, log entry 6); no step of the machine that publishes no
frame changes the front framebuffer (R53 (h)). What `boundary(m)` does, the LCD_STAT request included (R375). -/
def Obligations.FrameIs70224Cycles : Prop :=
  (∀ b : Bus, b.ppu.lcdOn = true → b.ppu.ly = 0 → b.ppu.mode = .oamScan → b.ppu.dot = 0 →
    (b.ppuStep 70224).ppu.ly = 0 ∧ (b.ppuStep 70224).ppu.mode = .oamScan ∧ (b.ppuStep 70224).ppu.dot = 0 ∧
    (b.ppuStep 70224).ppu.frames = b.ppu.frames + 1 ∧ (b.ppuStep 70224).ifl.getLsbD 0 = true) ∧
  (∀ (b : Bus) (m n : Nat), b.ppu.dot < b.ppu.mode.width → b.ppuStep (m + n) = (b.ppuStep m).ppuStep n) ∧
  (∀ (b : Bus) (c : Nat) (p : Ppu), b.ppu.lcdOn = true → b.ppu.dot < b.ppu.mode.width →
    p = { b.ppu with dot := b.ppu.dot + c - b.ppu.mode.width } →
    (b.ppu.mode = .oamScan → 80 ≤ b.ppu.dot + c → b.ppu.dot + c < 80 + 172 →
      b.ppuStep c = { b with ppu := p }.boundary .transfer) ∧
    (b.ppu.mode = .transfer → 172 ≤ b.ppu.dot + c → b.ppu.dot + c < 172 + 204 →
      b.ppuStep c = ({ b with ppu := p }.renderLine b.ppu.ly.toNat).boundary .hblank) ∧
    (b.ppu.mode = .hblank → b.ppu.ly ≠ 143 → 204 ≤ b.ppu.dot + c → b.ppu.dot + c < 204 + 80 →
      b.ppuStep c = { b with ppu := { p with ly := b.ppu.ly + 1 } }.boundary .oamScan) ∧
    (b.ppu.mode = .hblank → b.ppu.ly = 143 → 204 ≤ b.ppu.dot + c → b.ppu.dot + c < 204 + 456 →
      b.ppuStep c =
        { b with
          ppu :=
            { p with
              ly := 144, fbFront := b.ppu.fbBack, fbBack := b.ppu.fbFront, frames := b.ppu.frames + 1 }
          ifl := b.ifl ||| 0b00001#5 }.boundary .vblank) ∧
    (b.ppu.mode = .vblank → b.ppu.ly ≠ 153 → 456 ≤ b.ppu.dot + c → b.ppu.dot + c < 456 + 456 →
      b.ppuStep c = { b with ppu := { p with ly := b.ppu.ly + 1 } }.boundary .vblank) ∧
    (b.ppu.mode = .vblank → b.ppu.ly = 153 → 456 ≤ b.ppu.dot + c → b.ppu.dot + c < 456 + 80 →
      b.ppuStep c = { b with ppu := { p with ly := 0, windowLine := 0 } }.boundary .oamScan) ∧
    (b.ppu.dot + c < b.ppu.mode.width → b.ppuStep c = { b with ppu := { b.ppu with dot := b.ppu.dot + c } })) ∧
  (∀ (b : Bus) (c : Nat), b.ppu.lcdOn = false → b.ppuStep c = b) ∧
  (∀ (b : Bus) (m : DisplayMode),
    b.boundary m =
      { b with
        ppu := { b.ppu with mode := m, coincidence := decide (b.ppu.ly = b.ppu.lyc) }
        ifl :=
          if (m ≠ b.ppu.mode ∧
                ((m = .hblank ∧ b.ppu.statEnable.getLsbD 0 = true) ∨
                  (m = .vblank ∧ b.ppu.statEnable.getLsbD 1 = true) ∨
                  (m = .oamScan ∧ b.ppu.statEnable.getLsbD 2 = true))) ∨
              (b.ppu.ly = b.ppu.lyc ∧ b.ppu.coincidence = false ∧ b.ppu.statEnable.getLsbD 3 = true) then
            b.ifl ||| 0b00010#5
          else b.ifl }) ∧
  (∀ s t : State, step s = .next t →
    s.bus.ppu.frames ≤ t.bus.ppu.frames ∧
    (t.bus.ppu.frames = s.bus.ppu.frames → t.bus.ppu.fbFront = s.bus.ppu.fbFront))

/-- The renderer (R378): `render_line(y)` for a visible scanline writes the 160 pixels of row `y` of the back framebuffer and
`window_line`, and nothing else; the window's row counter advances only where the window is drawn. The back framebuffer is in
canonical form, as the invariant says.

What shade a pixel gets. A tile's pixel is two bits of the two bytes of its row, the tile's number read from the map (R379). The
layer's colour index is 0 with LCDC[0] = 0, else the window's tile pixel where the window covers the column, else the
background's, scrolled and wrapped (R378), and its shade is BGP's, or 0 with LCDC[0] = 0 (R378, R43). A scanline's sprites are the
first ten in OAM order whose rows cover it, and a sprite shows at a column the two bits of its own row, flipped as its attributes
say, where they are not both 0 (R380). The pixel is the layer's shade where no sprite shows or LCDC[1] = 0; else the sprite with the
smaller X wins, the lower OAM index on a tie, and gives its shade of OBP0 or OBP1, unless it is behind the background and the
layer's index is not 0 (R380). -/
def Obligations.RenderLineWritesOneRow : Prop :=
  (∀ (b : Bus) (y : Nat), Store.wf (144 * 160) b.ppu.fbBack = true → y < 144 →
    (∀ x, x < 160 → cellGet (b.renderLine y).ppu.fbBack (160 * y + x) = b.pixelShade y x) ∧
    (∀ k, k < 160 * y ∨ 160 * y + 160 ≤ k → cellGet (b.renderLine y).ppu.fbBack k = cellGet b.ppu.fbBack k) ∧
    b.renderLine y =
      { b with
        ppu :=
          { b.ppu with
            fbBack := (b.renderLine y).ppu.fbBack
            windowLine := b.ppu.windowLine +
              (if b.ppu.lcdc.getLsbD 0 = true ∧ b.ppu.lcdc.getLsbD 5 = true ∧ b.ppu.wy.toNat ≤ y ∧
                  b.ppu.wx.toNat ≤ 166 then 1 else 0) } }) ∧
  (∀ (b : Bus) (map px py : Nat), ∃ (t : Byte) (row : Nat),
    t = cellGet b.vram (map + 32 * (py / 8) + px / 8) ∧
    (row : Int) =
      (if b.ppu.lcdc.getLsbD 4 = true then 16 * (t.toNat : Int) else 4096 + 16 * t.toInt) + 2 * (py % 8 : Nat) ∧
    (b.tilePixel map px py).toNat =
      2 * bitNat ((cellGet b.vram (row + 1)).getLsbD (7 - px % 8)) + bitNat ((cellGet b.vram row).getLsbD (7 - px % 8))) ∧
  (∀ (b : Bus) (y x : Nat),
    b.layerIndex y x =
      (if b.ppu.lcdc.getLsbD 0 = false then 0
       else if b.ppu.lcdc.getLsbD 5 = true ∧ b.ppu.wy.toNat ≤ y ∧ b.ppu.wx.toNat ≤ 166 ∧ b.ppu.wx.toNat ≤ x + 7 then
         b.tilePixel (if b.ppu.lcdc.getLsbD 6 = true then 0x1C00 else 0x1800) (x + 7 - b.ppu.wx.toNat) b.ppu.windowLine
       else
         b.tilePixel (if b.ppu.lcdc.getLsbD 3 = true then 0x1C00 else 0x1800) ((b.ppu.scx.toNat + x) % 256)
           ((b.ppu.scy.toNat + y) % 256)) ∧
    (b.layerShade y x).toNat =
      (if b.ppu.lcdc.getLsbD 0 = false then 0 else b.ppu.bgp.toNat / 4 ^ (b.layerIndex y x).toNat % 4)) ∧
  (∀ (b : Bus) (y i h : Nat) (covers : Nat → Bool), h = (if b.ppu.lcdc.getLsbD 2 = true then 16 else 8) →
    (∀ j, covers j = true ↔ (cellGet b.oam (4 * j)).toNat ≤ y + 16 ∧ y + 16 < (cellGet b.oam (4 * j)).toNat + h) →
    (i ∈ b.spritesOn y ↔ i < 40 ∧ covers i = true ∧ ((List.range i).filter covers).length < 10) ∧
    (i ∈ b.spritesOn y → ∀ x : Nat, ∃ (sx col top row t bit : Nat) (attr : Byte) (c : BitVec 2),
      sx = (cellGet b.oam (4 * i + 1)).toNat ∧ attr = cellGet b.oam (4 * i + 3) ∧ col = x + 8 - sx ∧
      top + (cellGet b.oam (4 * i)).toNat = y + 16 ∧ row = (if attr.getLsbD 6 = true then h - 1 - top else top) ∧
      t = (cellGet b.oam (4 * i + 2)).toNat -
        (if h = 16 then (cellGet b.oam (4 * i + 2)).toNat % 2 else 0) ∧
      bit = (if attr.getLsbD 5 = true then col else 7 - col) ∧
      c.toNat =
        2 * bitNat ((cellGet b.vram (16 * t + 2 * row + 1)).getLsbD bit) +
          bitNat ((cellGet b.vram (16 * t + 2 * row)).getLsbD bit) ∧
      b.spritePixel y x i =
        (if sx ≤ x + 8 ∧ x + 8 ≤ sx + 7 ∧ c ≠ 0 then some ⟨sx, c, attr⟩ else none))) ∧
  (∀ (b : Bus) (y x : Nat),
    (b.ppu.lcdc.getLsbD 1 = false ∨ (∀ i, i ∈ b.spritesOn y → b.spritePixel y x i = none) →
      b.pixelShade y x = b.layerShade y x) ∧
    (∀ (i : Nat) (p : SpritePixel), b.ppu.lcdc.getLsbD 1 = true → i ∈ b.spritesOn y → b.spritePixel y x i = some p →
      (∀ (j : Nat) (q : SpritePixel), j ∈ b.spritesOn y → b.spritePixel y x j = some q →
        p.sx < q.sx ∨ (p.sx = q.sx ∧ i ≤ j)) →
      (b.pixelShade y x).toNat =
        (if p.attr.getLsbD 7 = true ∧ b.layerIndex y x ≠ 0 then (b.layerShade y x).toNat
         else (if p.attr.getLsbD 4 = true then b.ppu.obp1 else b.ppu.obp0).toNat / 4 ^ p.color.toNat % 4)))

/-! ## The scheduler, reset, the invariant -/

/-- The model's steps are the spec's quanta (R391, R392): from a quantum boundary of a live machine, `sleep_cycle(input)` is reached by
running `step` some number of times, at most one more than a quarter of the quantum. One step per CPU step is the model's choice
(DESIGN CHOICE, log entry 2). -/
def Obligations.StepsRefineSleepCycle : Prop :=
  ∀ (s : State) (input : Buttons), s.cpuAlive = true → s.consumed = 0 →
    ∃ k, 1 ≤ k ∧ k ≤ s.quantum / 4 + 1 ∧
      Sys2Proof.core.run k { s with bus := { s.bus with input := input } } = s.sleepCycle input

/-- `reset(CFG)` (R420, R421, R422, R52): exactly the configurations with none of R421's failures give a machine. It has the header's
fields (R47, R100 to R103), the ROM of R105, the external RAM of R108, the bank-selection state of R48, and every other piece of
state at the value of its column of R52: first what the two columns share, then each column. What is the model's, not the spec's:
the parameters CFG.QUANTUM and CFG.CONTENTION held as state (DESIGN CHOICE, log entry 1); the input of the first quantum and the
empty list of coming inputs (DESIGN CHOICE, log entry 3); the clock registers at 0 whatever CFG.BATTERY holds, where R48 resets
them to 0 and R108 speaks of five further bytes (DEDUCED, log entry 7); the RAM limit of a type without RAM (DEDUCED, log
entry 9); the cycle counters at 0 (DEDUCED, log entry 14). -/
def Obligations.ResetSucceedsExactlyWithoutLoadFailures : Prop :=
  ∀ cfg : Cfg,
    ((∃ s, reset cfg = .ok s) ↔
      0x150 ≤ cfg.rom.len ∧ (cfg.bootRom.len = 0 ∨ cfg.bootRom.len = 256) ∧
      (∃ k n, cartKind (cellGet cfg.rom.cells 0x147) = some k ∧ k.variant ∈ cfg.supportedMbc ∧
        (cellGet cfg.rom.cells 0x148).toNat ≤ 8 ∧ ramBankCount (cellGet cfg.rom.cells 0x149) = some n ∧
        (k.ram = false ∨ n ≤ k.variant.ramLimit))) ∧
    (∀ s, reset cfg = .ok s →
      (∃ k n, cartKind (cellGet cfg.rom.cells 0x147) = some k ∧ ramBankCount (cellGet cfg.rom.cells 0x149) = some n ∧
        s.bus.cart.title = (List.range 16).map (fun i => cellGet cfg.rom.cells (0x134 + i)) ∧
        s.bus.cart.cartType = cellGet cfg.rom.cells 0x147 ∧ s.bus.cart.romSizeCode = cellGet cfg.rom.cells 0x148 ∧
        s.bus.cart.ramSizeCode = cellGet cfg.rom.cells 0x149 ∧
        s.bus.cart.headerChecksum = cellGet cfg.rom.cells 0x14D ∧
        s.bus.cart.globalChecksum = joinBytes (cellGet cfg.rom.cells 0x14E) (cellGet cfg.rom.cells 0x14F) ∧
        s.bus.cart.variant = k.variant ∧ s.bus.cart.battery = k.battery ∧ s.bus.cart.hasRtc = k.rtc ∧
        s.bus.cart.romBanks = 2 * 2 ^ (cellGet cfg.rom.cells 0x148).toNat ∧
        s.bus.cart.ramBanks = (if k.ram = true then n else 0)) ∧
      (∀ bank o, bank < s.bus.cart.romBanks → o < 0x4000 →
        s.bus.cart.romByte bank o =
          if bank * 0x4000 + o < cfg.rom.len then cellGet cfg.rom.cells (bank * 0x4000 + o) else 0xFF) ∧
      (∀ j, j < s.bus.cart.ramBanks * 0x2000 →
        cellGet s.bus.cart.eram j =
          if s.bus.cart.battery = true ∧
              (cfg.battery.len = s.bus.cart.ramBanks * 0x2000 ∨
                (s.bus.cart.hasRtc = true ∧ cfg.battery.len = s.bus.cart.ramBanks * 0x2000 + 5)) then
            cellGet cfg.battery.cells j
          else 0) ∧
      s.bus.cart =
        { s.bus.cart with
          ramEnable := false, romBankLo := 1, romBankHi := 0, ramBank := 0, mbc1Mode := false
          rtc := ⟨0, 0, 0, 0, 0⟩, rtcLatched := ⟨0, 0, 0, 0, 0⟩, latchPrev := 0xFF } ∧
      s =
        { regs := s.regs, ime := false, eiPending := false, halted := false, cpuAlive := true
          quantum := cfg.quantum, consumed := 0, carry := 0, cpuCycles := 0, deviceCycles := 0, inputs := []
          bus :=
            { s.bus with
              contention := cfg.contention, input := Buttons.released
              vram := [], wram := [], oam := [], unused := [], ioPlain := [], hram := []
              ie := 0, selAction := false, selDir := false, serial := ⟨0, false, false, 0⟩, joyPrev := 0xF
              timer := { s.bus.timer with tima := 0, tma := 0, tac := 0 }
              ppu :=
                { s.bus.ppu with
                  statEnable := 0, scy := 0, scx := 0, ly := 0, lyc := 0, wy := 0, wx := 0, dot := 0, windowLine := 0
                  fbBack := [], fbFront := [], frames := 0 } } } ∧
      (cfg.bootRom.len = 256 →
        s.regs = ⟨0, 0, 0, 0, 0, 0, 0, 0, 0, 0⟩ ∧ s.bus.bootOff = false ∧ s.bus.ifl = 0 ∧ s.bus.timer.sysclk = 0 ∧
        s.bus.ppu.lcdc = 0 ∧ s.bus.ppu.coincidence = false ∧ s.bus.ppu.mode = .hblank ∧ s.bus.ppu.dma = 0 ∧
        s.bus.ppu.bgp = 0 ∧ s.bus.ppu.obp0 = 0 ∧ s.bus.ppu.obp1 = 0 ∧
        ∃ m, s.bus.boot = some m ∧ ∀ j, j < 256 → cellGet m j = cellGet cfg.bootRom.cells j) ∧
      (cfg.bootRom.len = 0 →
        s.regs = ⟨0x01, 0xB0, 0x00, 0x13, 0x00, 0xD8, 0x01, 0x4D, 0xFFFE, 0x0100⟩ ∧ s.bus.bootOff = true ∧
        s.bus.ifl = 1 ∧ s.bus.timer.sysclk = 0xABCC ∧ s.bus.ppu.lcdc = 0x91 ∧ s.bus.ppu.coincidence = true ∧
        s.bus.ppu.mode = .oamScan ∧ s.bus.ppu.dma = 0xFF ∧ s.bus.ppu.bgp = 0xFC ∧ s.bus.ppu.obp0 = 0xFF ∧
        s.bus.ppu.obp1 = 0xFF ∧ s.bus.boot = none))

/-- Battery-backed RAM survives a reset through the host (R108, R404, R423): the bytes `save_persisted_state()` hands out, given back
as CFG.BATTERY to a reset of the same cartridge, reproduce the external RAM exactly. -/
def Obligations.SavedRamIsReloaded : Prop :=
  ∀ (cfg : Cfg) (s0 s : State) (img : Image), reset cfg = .ok s0 → s.bus.cart.Ok →
    s.bus.cart.battery = s0.bus.cart.battery → s.bus.cart.hasRtc = s0.bus.cart.hasRtc →
    s.bus.cart.ramBanks = s0.bus.cart.ramBanks → s.savePersisted = some img →
    ∃ t, reset { cfg with battery := img } = .ok t ∧ t.bus.cart.eram = s.bus.cart.eram

/-- The invariant of R53, R49 and R24 is kept by every step, from every state that meets it: F[3:0] = 0, a legal display, bank
registers inside their widths, canonical memories, an overshoot of at most 20, and device cycles equal to CPU cycles at every
quantum boundary. -/
def Obligations.InvariantIsKeptByEveryStep : Prop :=
  ∀ s t : State, s.Inv → step s = .next t → t.Inv

/-- The invariant holds after reset: of the default configuration, and of every well-formed one that loads. That `State.reset` is the
reset of `Cfg.default` is the model's choice (DESIGN CHOICE, log entry 1). -/
def Obligations.InvariantHoldsAfterReset : Prop :=
  State.reset.Inv ∧ reset Cfg.default = .ok State.reset ∧
  ∀ (cfg : Cfg) (s : State), cfg.wf = true → reset cfg = .ok s → s.Inv
end

