-- ==== Sys2Proof/Laws/Memory.lean ====
section
/-! SUPPORT. The laws of sparse stores: read after write, canonical form kept, and the framing of `List` folds of writes. -/

namespace Sys2Proof.Machine

/-- A canonical store lists nothing below its lower bound. -/
theorem cellGet_of_lt {w : Nat} {bound : Nat} : ∀ {m : Store w} {lo k : Nat},
    cellsFrom bound lo m = true → k < lo → cellGet m k = 0#w
  | [], _, _, _, _ => rfl
  | (k', v) :: m, lo, k, h, hk => by
    simp only [cellsFrom, Bool.and_eq_true, decide_eq_true_eq] at h
    have hne : k ≠ k' := by omega
    simp only [cellGet, hne, if_false]
    exact cellGet_of_lt h.2 (by omega)

/-- The lower bound of a canonical store may be lowered. -/
theorem cellsFrom_mono {w : Nat} {bound lo lo' : Nat} {m : Store w} (h : cellsFrom bound lo' m = true) (hl : lo ≤ lo') :
    cellsFrom bound lo m = true := by
  cases m with
  | nil => rfl
  | cons kv m =>
    obtain ⟨k, v⟩ := kv
    simp only [cellsFrom, Bool.and_eq_true, decide_eq_true_eq] at h ⊢
    exact ⟨⟨⟨by omega, h.1.1.2⟩, h.1.2⟩, h.2⟩

/-- A write leaves every other index alone. -/
theorem cellGet_cellSet_ne {w : Nat} {m : Store w} {k j : Nat} {v : BitVec w} (h : j ≠ k) :
    cellGet (cellSet m k v) j = cellGet m j := by
  induction m with
  | nil => by_cases hv : v = 0#w <;> simp [cellSet, hv, cellGet, h]
  | cons kv m ih =>
    obtain ⟨k', v'⟩ := kv
    by_cases h1 : k < k'
    · by_cases hv : v = 0#w <;> simp [cellSet, h1, hv, cellGet, h]
    · by_cases h2 : k = k'
      · subst h2
        by_cases hv : v = 0#w <;> simp [cellSet, hv, cellGet, h]
      · simp only [cellSet, h1, h2, if_false, cellGet]
        rw [ih]

/-- A read after a write of the same index gives the value written. -/
theorem cellGet_cellSet_same {w : Nat} {bound : Nat} {k : Nat} {v : BitVec w} : ∀ {m : Store w} {lo : Nat},
    cellsFrom bound lo m = true → cellGet (cellSet m k v) k = v
  | [], _, _ => by by_cases hv : v = 0#w <;> simp [cellSet, hv, cellGet]
  | (k', v') :: m, lo, h => by
    simp only [cellsFrom, Bool.and_eq_true, decide_eq_true_eq] at h
    by_cases h1 : k < k'
    · by_cases hv : v = 0#w
      · have hne : k ≠ k' := by omega
        simp only [cellSet, h1, hv, if_true, cellGet, hne, if_false]
        exact cellGet_of_lt h.2 (by omega)
      · simp [cellSet, h1, hv, cellGet]
    · by_cases h2 : k = k'
      · subst h2
        by_cases hv : v = 0#w
        · simp only [cellSet, h1, hv, if_false, if_true]
          exact cellGet_of_lt h.2 (by omega)
        · simp [cellSet, hv, cellGet]
      · simp only [cellSet, h1, h2, if_false, cellGet]
        exact cellGet_cellSet_same h.2

/-- A write keeps the canonical form. -/
theorem cellsFrom_cellSet {w : Nat} {bound : Nat} {k : Nat} {v : BitVec w} (hk : k < bound) :
    ∀ {m : Store w} {lo : Nat}, cellsFrom bound lo m = true → lo ≤ k → cellsFrom bound lo (cellSet m k v) = true
  | [], lo, _, hl => by
    by_cases hv : v = 0#w
    · simp [cellSet, hv, cellsFrom]
    · simp [cellSet, hv, cellsFrom, hl, hk]
  | (k', v') :: m, lo, h, hl => by
    have h' := h
    simp only [cellsFrom, Bool.and_eq_true, decide_eq_true_eq] at h'
    by_cases h1 : k < k'
    · by_cases hv : v = 0#w
      · simpa [cellSet, h1, hv] using h
      · simp only [cellSet, h1, hv, if_true, if_false, cellsFrom, Bool.and_eq_true, decide_eq_true_eq]
        exact ⟨⟨⟨hl, hk⟩, hv⟩, ⟨⟨⟨h1, h'.1.1.2⟩, h'.1.2⟩, h'.2⟩⟩
    · by_cases h2 : k = k'
      · subst h2
        by_cases hv : v = 0#w
        · simp only [cellSet, h1, hv, if_false, if_true]
          exact cellsFrom_mono h'.2 (by omega)
        · simp only [cellSet, h1, hv, if_false, if_true, cellsFrom, Bool.and_eq_true, decide_eq_true_eq]
          exact ⟨⟨⟨hl, hk⟩, hv⟩, h'.2⟩
      · simp only [cellSet, h1, h2, if_false, cellsFrom, Bool.and_eq_true, decide_eq_true_eq]
        exact ⟨⟨⟨h'.1.1.1, h'.1.1.2⟩, h'.1.2⟩, cellsFrom_cellSet hk h'.2 (by omega)⟩

/-- `Store.wf` is kept by a write inside the array. -/
theorem wf_cellSet {w : Nat} {bound k : Nat} {v : BitVec w} {m : Store w} (h : Store.wf bound m = true) (hk : k < bound) :
    Store.wf bound (cellSet m k v) = true :=
  cellsFrom_cellSet hk h (Nat.zero_le k)

/-- Read after write in a canonical array. -/
theorem cellGet_cellSet {w : Nat} {bound k j : Nat} {v : BitVec w} {m : Store w} (h : Store.wf bound m = true) :
    cellGet (cellSet m k v) j = if j = k then v else cellGet m j := by
  by_cases hj : j = k
  · subst hj; simp [cellGet_cellSet_same h]
  · simp [hj, cellGet_cellSet_ne hj]

/-- The empty array is canonical. -/
@[simp] theorem wf_nil {w : Nat} (bound : Nat) : Store.wf bound ([] : Store w) = true := rfl

/-- An unwritten array reads 0. -/
@[simp] theorem cellGet_nil {w : Nat} (k : Nat) : cellGet ([] : Store w) k = 0#w := rfl

/-- Canonical lists stay canonical when cut off at a bound. -/
theorem cellsFrom_filter {w : Nat} {bound n : Nat} : ∀ {m : Store w} {lo : Nat}, cellsFrom bound lo m = true →
    cellsFrom n lo (m.filter fun kv => decide (kv.1 < n)) = true
  | [], _, _ => rfl
  | (k, v) :: m, lo, h => by
    simp only [cellsFrom, Bool.and_eq_true, decide_eq_true_eq] at h
    by_cases hk : k < n
    · simp only [List.filter, hk, decide_true, cellsFrom, Bool.and_eq_true, decide_eq_true_eq]
      exact ⟨⟨⟨h.1.1.1, trivial⟩, h.1.2⟩, cellsFrom_filter h.2⟩
    · simp only [List.filter, hk, decide_false]
      exact cellsFrom_mono (cellsFrom_filter h.2) (by omega)

/-- A canonical list inside a bound is unchanged by a cut at that bound. -/
theorem filter_of_cellsFrom {w : Nat} {n : Nat} : ∀ {m : Store w} {lo : Nat}, cellsFrom n lo m = true →
    (m.filter fun kv => decide (kv.1 < n)) = m
  | [], _, _ => rfl
  | (k, v) :: m, lo, h => by
    simp only [cellsFrom, Bool.and_eq_true, decide_eq_true_eq] at h
    simp only [List.filter, h.1.1.2, decide_true]
    rw [filter_of_cellsFrom h.2]

/-- A cut off below the index of a write does not see it. -/
theorem filter_cellSet_of_le {w : Nat} {n k : Nat} {v : BitVec w} (hk : n ≤ k) :
    ∀ {m : Store w}, ((cellSet m k v).filter fun kv => decide (kv.1 < n)) = m.filter fun kv => decide (kv.1 < n)
  | [] => by
    have hn : ¬ k < n := by omega
    by_cases hv : v = 0#w <;> simp [cellSet, hv, hn]
  | (k', v') :: m => by
    have hn : ¬ k < n := by omega
    by_cases h1 : k < k'
    · by_cases hv : v = 0#w <;> simp [cellSet, h1, hv, List.filter, hn]
    · by_cases h2 : k = k'
      · subst h2
        by_cases hv : v = 0#w <;> simp [cellSet, hv, List.filter, hn]
      · simp only [cellSet, h1, h2, if_false, List.filter]
        rw [filter_cellSet_of_le hk]

/-- The canonical form of a byte string is the canonical form of a store. -/
theorem imageCellsFrom_eq_cellsFrom (len : Nat) : ∀ (m : List Host.Cell) (lo : Nat),
    imageCellsFrom len lo m = cellsFrom len lo m
  | [], _ => rfl
  | (k, v) :: m, lo => by
    show (decide (lo ≤ k) && decide (k < len) && decide (v ≠ 0#8) && imageCellsFrom len (k + 1) m) = _
    rw [imageCellsFrom_eq_cellsFrom len m (k + 1)]
    rfl

/-- `State.reset`'s memories are canonical: every one lists nothing. -/
theorem reset_memories_empty :
    State.reset.bus.vram = [] ∧ State.reset.bus.wram = [] ∧ State.reset.bus.oam = [] ∧ State.reset.bus.unused = [] ∧
    State.reset.bus.ioPlain = [] ∧ State.reset.bus.hram = [] ∧ State.reset.bus.cart.rom = [] ∧
    State.reset.bus.cart.eram = [] ∧ State.reset.bus.ppu.fbBack = [] ∧ State.reset.bus.ppu.fbFront = [] :=
  ⟨rfl, rfl, rfl, rfl, rfl, rfl, rfl, rfl, rfl, rfl⟩

end Sys2Proof.Machine
end

