-- ==== Sys2Proof/Laws/Router.lean ====
section
/-! SUPPORT. The router: where an address leads, what a write leaves alone, and that a write keeps every array canonical and inside
its size. -/

namespace Sys2Proof.Machine

/-! ## Where an address leads -/

/-- Every region's offset is inside its array. -/
theorem regionOf_bounds (a : Word) :
    match regionOf a with
    | .rom n    => n = a.toNat ∧ n ≤ 0x7FFF
    | .vram o   => o < 0x2000
    | .eram o   => o < 0x2000
    | .wram o   => o < 0x2000
    | .oam o    => o < 0xA0
    | .unused o => o < 0x60
    | .io o     => o < 0x80
    | .hram o   => o < 0x7F
    | .ie       => a.toNat = 0xFFFF := by
  have ha := a.isLt
  unfold regionOf
  simp only
  split_ifs <;> simp only <;> first | omega | exact ⟨trivial, by omega⟩

/-- A plain register of the I/O window keeps its offset. -/
theorem ioRegOf_plain {o k : Nat} (h : ioRegOf o = .plain k) : k = o := by
  unfold ioRegOf at h
  split at h <;> simp_all

/-- Every region starts at an even address, so a region's offset has the parity of the address. -/
def Region.parity : Region → Nat
  | .rom n    => n % 2
  | .vram o   => o % 2
  | .eram o   => o % 2
  | .wram o   => o % 2
  | .oam o    => o % 2
  | .unused o => o % 2
  | .io o     => o % 2
  | .hram o   => o % 2
  | .ie       => 1

/-- The parity of an address can be read off its region. -/
theorem parity_regionOf (a : Word) : (regionOf a).parity = a.toNat % 2 := by
  have ha := a.isLt
  unfold regionOf
  simp only
  split_ifs <;> simp only [Region.parity] <;> omega

/-- Addresses next to each other never reach the same storage byte. -/
theorem regionOf_succ_ne (a : Word) : regionOf (a + 1) ≠ regionOf a := by
  intro h
  have h1 := congrArg Region.parity h
  rw [parity_regionOf, parity_regionOf, BitVec.toNat_add] at h1
  simp at h1
  omega

/-! ## What a write leaves alone -/

/-- A ROM-side write changes bank registers only: the arrays and the header's fields stay. -/
theorem Cart.writeRom_static (c : Cart) (a : Nat) (v : Byte) :
    (c.writeRom a v).rom = c.rom ∧ (c.writeRom a v).romLen = c.romLen ∧ (c.writeRom a v).eram = c.eram ∧
    (c.writeRom a v).romBanks = c.romBanks ∧ (c.writeRom a v).ramBanks = c.ramBanks ∧
    (c.writeRom a v).variant = c.variant ∧ (c.writeRom a v).battery = c.battery ∧
    (c.writeRom a v).hasRtc = c.hasRtc := by
  unfold Cart.writeRom
  split
  · simp
  · unfold Cart.writeMbc1 Cart.setRamEnable; split_ifs <;> simp
  · unfold Cart.writeMbc3 Cart.setRamEnable Cart.latchClock; split_ifs <;> simp
  · unfold Cart.writeMbc5 Cart.setRamEnable; split_ifs <;> simp

/-- A RAM-side write changes external RAM or the clock registers only. -/
theorem Cart.writeRam_static (c : Cart) (o : Nat) (v : Byte) :
    (c.writeRam o v).rom = c.rom ∧ (c.writeRam o v).romLen = c.romLen ∧
    (c.writeRam o v).romBanks = c.romBanks ∧ (c.writeRam o v).ramBanks = c.ramBanks ∧
    (c.writeRam o v).variant = c.variant ∧ (c.writeRam o v).battery = c.battery ∧
    (c.writeRam o v).hasRtc = c.hasRtc ∧ (c.writeRam o v).romBankLo = c.romBankLo ∧
    (c.writeRam o v).romBankHi = c.romBankHi := by
  unfold Cart.writeRam
  split <;> simp

/-- The LCDC write touches the display controller and IF only. -/
theorem Bus.lcdcWrite_frame (b : Bus) (v : Byte) :
    b.lcdcWrite v = { b with ppu := (b.lcdcWrite v).ppu, ifl := (b.lcdcWrite v).ifl } := by
  unfold Bus.lcdcWrite Bus.boundary
  split_ifs <;> rfl

/-- One byte of the copy touches OAM only. -/
theorem Bus.dmaByte_frame (b : Bus) (v : Byte) (i : Nat) :
    Bus.dmaByte v b i = { b with oam := (Bus.dmaByte v b i).oam } := rfl

/-- The copy, as far as any prefix of it, touches OAM only. -/
theorem Bus.dmaFold_frame (v : Byte) : ∀ (l : List Nat) (b : Bus),
    l.foldl (Bus.dmaByte v) b = { b with oam := (l.foldl (Bus.dmaByte v) b).oam }
  | [], _ => rfl
  | i :: l, b => by
    rw [List.foldl_cons, Bus.dmaFold_frame v l (Bus.dmaByte v b i)]
    rfl

/-- The sprite-table copy touches OAM only. -/
theorem Bus.oamDma_frame (v : Byte) (b : Bus) : Bus.oamDma v b = { b with oam := (Bus.oamDma v b).oam } :=
  Bus.dmaFold_frame v _ b

/-- What no write ever changes: the contention parameter, the quantum's input, the boot ROM, the last joypad lines, and the
cartridge's ROM, sizes and header fields. -/
theorem Bus.write_static (b : Bus) (a : Word) (v : Byte) :
    (b.write a v).contention = b.contention ∧ (b.write a v).input = b.input ∧ (b.write a v).boot = b.boot ∧
    (b.write a v).joyPrev = b.joyPrev ∧ (b.write a v).cart.rom = b.cart.rom ∧
    (b.write a v).cart.romLen = b.cart.romLen ∧ (b.write a v).cart.romBanks = b.cart.romBanks ∧
    (b.write a v).cart.ramBanks = b.cart.ramBanks ∧ (b.write a v).cart.variant = b.cart.variant := by
  unfold Bus.write Bus.writeRegion
  cases regionOf a with
  | rom n => simp [Cart.writeRom_static]
  | vram o => simp only; split <;> simp
  | eram o => simp [Cart.writeRam_static]
  | wram o => simp
  | oam o => simp only; split <;> simp
  | unused o => simp
  | hram o => simp
  | ie => simp
  | io o =>
    simp only
    cases ioRegOf o <;> simp only [Bus.ioWrite]
    case lcdc => rw [Bus.lcdcWrite_frame]; simp
    case dma => rw [Bus.oamDma_frame]; simp
    all_goals simp

/-- No write publishes a frame or changes a framebuffer (R401, R53 (h)). -/
theorem Bus.write_frames (b : Bus) (a : Word) (v : Byte) :
    (b.write a v).ppu.frames = b.ppu.frames ∧ (b.write a v).ppu.fbFront = b.ppu.fbFront ∧
    (b.write a v).ppu.fbBack = b.ppu.fbBack := by
  unfold Bus.write Bus.writeRegion
  cases regionOf a with
  | rom n => simp
  | vram o => simp only; split <;> simp
  | eram o => simp
  | wram o => simp
  | oam o => simp only; split <;> simp
  | unused o => simp
  | hram o => simp
  | ie => simp
  | io o =>
    simp only
    cases ioRegOf o <;> simp only [Bus.ioWrite]
    case lcdc => unfold Bus.lcdcWrite; simp only; split_ifs <;> exact ⟨rfl, rfl, rfl⟩
    case dma => rw [Bus.oamDma_frame]; simp
    all_goals simp

/-! ## A write keeps the bus legal -/

/-- A masked ROM index is below the bank count (R128). -/
theorem Cart.romMask_lt {c : Cart} (h : c.Ok) (i : Nat) : c.romMask i < c.romBanks := by
  have h1 : c.romMask i ≤ c.romBanks - 1 := Nat.and_le_right
  have h2 := h.romBanks
  simp only [List.mem_cons, List.not_mem_nil, or_false] at h2
  omega

/-- A masked RAM index is below the bank count, where there is any RAM (R128). -/
theorem Cart.ramMask_lt {c : Cart} (h : c.ramBanks ≠ 0) (i : Nat) : c.ramMask i < c.ramBanks := by
  have h1 : c.ramMask i ≤ c.ramBanks - 1 := Nat.and_le_right
  omega

/-- The RAM bank an access reaches exists (R53 (e)). -/
theorem Cart.ramTarget_lt {c : Cart} {n : Nat} (h : c.ramTarget = .bank n) : n < c.ramBanks := by
  unfold Cart.ramTarget Cart.gatedBank at h
  split at h
  · split at h
    · simp only [RamTarget.bank.injEq] at h; omega
    · simp at h
  · split at h
    · simp at h
    · rename_i hh
      simp only [RamTarget.bank.injEq] at h
      simp only [not_or] at hh
      split at h
      · rw [← h]; exact Cart.ramMask_lt hh.2 _
      · omega
  · split_ifs at h with h1 h2 h3 <;> try (simp at h; done)
    simp only [RamTarget.bank.injEq] at h
    simp only [not_or] at h3
    rw [← h]; exact Cart.ramMask_lt h3.2 _
  · split at h
    · simp at h
    · rename_i hh
      simp only [RamTarget.bank.injEq] at h
      simp only [not_or] at hh
      rw [← h]; exact Cart.ramMask_lt hh.2 _

/-- `if field = 0 then 1` stays inside a field of `n` bits (R112, R118). -/
theorem oneIfZero_bounds (v : Byte) (m : Nat) (h : v.toNat ≤ m) (hm : 1 ≤ m) :
    1 ≤ (oneIfZero v).toNat ∧ (oneIfZero v).toNat ≤ m := by
  unfold oneIfZero
  split
  · simpa using hm
  · rename_i hv
    refine ⟨?_, h⟩
    have : v.toNat ≠ 0 := by
      intro h0
      exact hv (BitVec.eq_of_toNat_eq (by simpa using h0))
    omega

/-- A ROM-side write keeps the cartridge legal (R48, R112, R118, R124). -/
theorem Cart.Ok.writeRom {c : Cart} (h : c.Ok) (a : Nat) (v : Byte) : (c.writeRom a v).Ok := by
  obtain ⟨s1, s2, s3, s4, s5, s6, _, _⟩ := Cart.writeRom_static c a v
  refine ⟨by rw [s4]; exact h.romBanks, by rw [s5]; exact h.ramBanks, by rw [s2, s4]; exact h.romLen,
    by rw [s1, s2]; exact h.rom, by rw [s3, s5]; exact h.eram, ?_, ?_, ?_⟩
  · rw [s6]; intro hv
    simp only [Cart.writeRom, hv, Cart.writeMbc1, Cart.setRamEnable]
    have := h.mbc1 hv
    split_ifs <;> first
      | exact this
      | exact oneIfZero_bounds _ _ (by rw [BitVec.toNat_and]; exact Nat.and_le_right) (by omega)
  · rw [s6]; intro hv
    simp only [Cart.writeRom, hv, Cart.writeMbc3, Cart.setRamEnable, Cart.latchClock]
    have := h.mbc3 hv
    split_ifs <;> first
      | exact this
      | exact oneIfZero_bounds _ _ (by rw [BitVec.toNat_and]; exact Nat.and_le_right) (by omega)
  · rw [s6]; intro hv
    simp only [Cart.writeRom, hv, Cart.writeMbc5, Cart.setRamEnable]
    have := h.mbc5 hv
    split_ifs <;> try exact this
    have hle : (v &&& 0x01).toNat ≤ 1 := by rw [BitVec.toNat_and]; exact Nat.and_le_right
    simp only [BitVec.toNat_setWidth]
    omega

/-- A RAM-side write keeps the cartridge legal. -/
theorem Cart.Ok.writeRam {c : Cart} (h : c.Ok) {o : Nat} (ho : o < 0x2000) (v : Byte) : (c.writeRam o v).Ok := by
  obtain ⟨s1, s2, s4, s5, s6, _, _, s7, s8⟩ := Cart.writeRam_static c o v
  refine ⟨by rw [s4]; exact h.romBanks, by rw [s5]; exact h.ramBanks, by rw [s2, s4]; exact h.romLen,
    by rw [s1, s2]; exact h.rom, ?_, by rw [s6, s7]; exact h.mbc1, by rw [s6, s7]; exact h.mbc3,
    by rw [s6, s8]; exact h.mbc5⟩
  rw [s5]
  unfold Cart.writeRam
  split
  · exact h.eram
  · rename_i n ht
    have hn := Cart.ramTarget_lt ht
    exact wf_cellSet h.eram (by omega)
  · exact h.eram

/-- The display controller after an LCDC write is legal (R53 (c), (d), R383). -/
theorem Ppu.Ok.lcdcWrite {b : Bus} (h : b.ppu.Ok) (v : Byte) : (b.lcdcWrite v).ppu.Ok := by
  unfold Bus.lcdcWrite
  simp only
  have hlcd : ∀ p : Ppu, ({ p with lcdc := v } : Ppu).lcdOn = bitOf v 7 := fun _ => rfl
  split_ifs with h1 h2
  · refine ⟨by simp [Ppu.switchOff], ?_, fun _ => ⟨rfl, rfl, rfl⟩, by simp [Ppu.switchOff, DisplayMode.width],
      by simp [Ppu.switchOff], h.back, h.front⟩
    intro hon
    have : bitOf v 7 = true := hon
    simp [h1.2] at this
  · refine ⟨by simp [Bus.boundary], ?_, ?_, by simp [Bus.boundary, DisplayMode.width], by simp [Bus.boundary], h.back,
      h.front⟩
    · intro _; simp [Bus.boundary]
    · intro hoff
      have : bitOf v 7 = false := hoff
      simp [h2.2] at this
  · have hsame : bitOf v 7 = b.ppu.lcdOn := by
      simp only [not_and] at h1 h2
      cases hb : b.ppu.lcdOn <;> cases hv : bitOf v 7 <;> simp_all
    refine ⟨h.ly, ?_, ?_, h.dot, h.window, h.back, h.front⟩
    · intro hon
      have : bitOf v 7 = true := hon
      exact h.modeOn (by rw [← hsame]; exact this)
    · intro hoff
      have : bitOf v 7 = false := hoff
      exact h.modeOff (by rw [← hsame]; exact this)

/-- The copy keeps OAM canonical. -/
theorem wf_dmaFold (v : Byte) : ∀ (l : List Nat) (b : Bus), (∀ i ∈ l, i < 0xA0) → Memory.wf 0xA0 b.oam = true →
    Memory.wf 0xA0 (l.foldl (Bus.dmaByte v) b).oam = true
  | [], _, _, h => h
  | i :: l, b, hl, h => by
    rw [List.foldl_cons]
    refine wf_dmaFold v l _ (fun j hj => hl j (List.mem_cons_of_mem _ hj)) ?_
    exact wf_cellSet h (hl i List.mem_cons_self)

/-- Replacing the display controller and IF keeps the bus legal. -/
theorem Bus.Ok.withPpu {b : Bus} (h : b.Ok) {p : Ppu} (hp : p.Ok) (i : BitVec 5) : ({ b with ppu := p, ifl := i } : Bus).Ok :=
  { h with ppu := hp }

/-- Replacing OAM keeps the bus legal. -/
theorem Bus.Ok.withOam {b : Bus} (h : b.Ok) {m : Memory} (hm : Memory.wf 0xA0 m = true) : ({ b with oam := m } : Bus).Ok :=
  { h with oam := hm }

/-- The sprite-table copy keeps the bus legal. -/
theorem Bus.Ok.oamDma {b : Bus} (h : b.Ok) (v : Byte) : (Bus.oamDma v b).Ok := by
  have ho : Memory.wf 0xA0 (Bus.oamDma v b).oam = true :=
    wf_dmaFold v _ _ (fun i hi => by simpa using hi) h.oam
  rw [Bus.oamDma_frame]
  generalize (Bus.oamDma v b).oam = m at ho ⊢
  exact h.withOam ho

/-- A write keeps the bus legal: every array canonical and inside its size, the cartridge and the display controller legal. -/
theorem Bus.Ok.write {b : Bus} (h : b.Ok) (a : Word) (v : Byte) : (b.write a v).Ok := by
  have hr := regionOf_bounds a
  unfold Bus.write Bus.writeRegion
  cases hreg : regionOf a <;> simp only [hreg] at hr ⊢
  case rom n => exact { h with cart := h.cart.writeRom n v }
  case vram o => split; exact h; exact { h with vram := wf_cellSet h.vram hr }
  case eram o => exact { h with cart := h.cart.writeRam hr v }
  case wram o => exact { h with wram := wf_cellSet h.wram hr }
  case oam o => split; exact h; exact { h with oam := wf_cellSet h.oam hr }
  case unused o => exact { h with unused := wf_cellSet h.unused hr }
  case hram o => exact { h with hram := wf_cellSet h.hram hr }
  case ie => exact { h with }
  case io o =>
    cases hio : ioRegOf o <;> simp only [Bus.ioWrite]
    case lcdc =>
      have hp := h.ppu.lcdcWrite v
      rw [Bus.lcdcWrite_frame]
      generalize (b.lcdcWrite v).ppu = p at hp ⊢
      generalize (b.lcdcWrite v).ifl = i
      exact h.withPpu hp i
    case dma => exact Bus.Ok.oamDma (b := { b with ppu := { b.ppu with dma := v } }) { h with ppu := { h.ppu with } } v
    case plain k => exact { h with ioPlain := wf_cellSet h.ioPlain (by rw [ioRegOf_plain hio]; exact hr) }
    all_goals first
      | exact h
      | exact { h with }
      | exact { h with ppu := { h.ppu with } }

/-- Any list of byte stores keeps the bus legal. -/
theorem Bus.Ok.writes {b : Bus} (h : b.Ok) : ∀ w : List (Word × Byte), (b.writes w).Ok := by
  intro w
  induction w generalizing b with
  | nil => exact h
  | cons x w ih => exact ih (h.write x.1 x.2)

end Sys2Proof.Machine
end

