-- ==== Sys2Proof/Laws/Cart.lean ====
section
/-! SUPPORT. The cartridge's bank controllers, one equation per variant and operation, and external RAM and the I/O registers as the
router reaches them. -/

namespace Sys2Proof.Machine

/-! ## Bit fields as integers -/

/-- Concatenating an index's two fields is adding them. -/
theorem shift_or_eq_add {n a b : Nat} (h : b < 2 ^ n) : (a * 2 ^ n ||| b) = 2 ^ n * a + b := by
  rw [Nat.mul_comm]
  exact (Nat.two_pow_add_eq_or_of_lt h a).symm

/-- A masked bank number with 0 taken as 1 (R112, R118), as an integer. -/
theorem oneIfZero_eq {v mask : Byte} {m : Nat} (h : (v &&& mask).toNat = v.toNat % m) :
    oneIfZero (v &&& mask) = byteOf (if v.toNat % m = 0 then 1 else v.toNat % m) := by
  rw [← h]
  unfold oneIfZero byteOf
  by_cases e : v &&& mask = 0
  · rw [e]
    rfl
  · have hn : (v &&& mask).toNat ≠ 0 := fun k => e (BitVec.eq_of_toNat_eq k)
    rw [if_neg e, if_neg hn, BitVec.ofNat_toNat, BitVec.setWidth_eq]

/-! ## Each variant's controller -/

/-- A cartridge without a controller ignores writes to ROM space (R110). -/
theorem Cart.writeRom_noMbc {c : Cart} (h : c.variant = .noMbc) (a : Nat) (v : Byte) : c.writeRom a v = c := by
  unfold Cart.writeRom; split <;> simp_all

/-- MBC1's controller answers its own writes (R112). -/
theorem Cart.writeRom_mbc1 {c : Cart} (h : c.variant = .mbc1) (a : Nat) (v : Byte) :
    c.writeRom a v = c.writeMbc1 a v := by
  unfold Cart.writeRom; split <;> simp_all

/-- MBC3's controller answers its own writes (R118). -/
theorem Cart.writeRom_mbc3 {c : Cart} (h : c.variant = .mbc3) (a : Nat) (v : Byte) :
    c.writeRom a v = c.writeMbc3 a v := by
  unfold Cart.writeRom; split <;> simp_all

/-- MBC5's controller answers its own writes (R124). -/
theorem Cart.writeRom_mbc5 {c : Cart} (h : c.variant = .mbc5) (a : Nat) (v : Byte) :
    c.writeRom a v = c.writeMbc5 a v := by
  unfold Cart.writeRom; split <;> simp_all

/-- MBC1's switchable bank, its two fields added (R113). -/
theorem Cart.highBank_mbc1 {c : Cart} (h : c.variant = .mbc1) (hlo : c.romBankLo.toNat ≤ 0x1F) :
    c.highBank = c.romMask (32 * c.romBankHi.toNat + c.romBankLo.toNat) := by
  unfold Cart.highBank
  simp only [h]
  exact congrArg c.romMask (shift_or_eq_add (n := 5) (by omega))

/-- MBC3's switchable bank (R119). -/
theorem Cart.highBank_mbc3 {c : Cart} (h : c.variant = .mbc3) : c.highBank = c.romMask c.romBankLo.toNat := by
  unfold Cart.highBank
  simp only [h]

/-- MBC5's switchable bank, its two fields added (R125). -/
theorem Cart.highBank_mbc5 {c : Cart} (h : c.variant = .mbc5) :
    c.highBank = c.romMask (256 * c.romBankHi.toNat + c.romBankLo.toNat) := by
  unfold Cart.highBank
  simp only [h]
  exact congrArg c.romMask (shift_or_eq_add (n := 8) c.romBankLo.isLt)

/-! ## External RAM and I/O registers through the router -/

/-- The external-RAM window (R60). -/
theorem regionOf_eram {a : Word} (h : 0xA000 ≤ a.toNat) (h' : a.toNat ≤ 0xBFFF) : regionOf a = .eram (a.toNat - 0xA000) := by
  unfold regionOf
  simp only
  rw [if_neg (by omega), if_neg (by omega), if_pos h']

/-- A read of external RAM is the cartridge's (R62). -/
theorem Bus.read_eram {b : Bus} {a : Word} {o : Nat} (h : regionOf a = .eram o) : b.read a = b.cart.readRam o := by
  unfold Bus.read
  rw [h]
  rfl

/-- A write of external RAM reaches the cartridge and nothing else (R63). -/
theorem Bus.write_eram {b : Bus} {a : Word} {v : Byte} {o : Nat} (h : regionOf a = .eram o) :
    b.write a v = { b with cart := b.cart.writeRam o v } := by
  unfold Bus.write
  rw [h]
  rfl

/-- A write of ROM space reaches the bank controller and nothing else (R63). -/
theorem Bus.write_rom {b : Bus} {a : Word} {v : Byte} (h : a.toNat ≤ 0x7FFF) :
    b.write a v = { b with cart := b.cart.writeRom a.toNat v } := by
  unfold Bus.write regionOf
  simp only
  rw [if_pos h]
  rfl

/-- A read of the I/O window is the register's (R62, R81). -/
theorem Bus.read_io {b : Bus} {a : Word} {o : Nat} (h : regionOf a = .io o) : b.read a = b.ioRead (ioRegOf o) := by
  unfold Bus.read
  rw [h]
  rfl

/-- A write of the I/O window is the register's (R63, R82). -/
theorem Bus.write_io {b : Bus} {a : Word} {v : Byte} {o : Nat} (h : regionOf a = .io o) :
    b.write a v = b.ioWrite v (ioRegOf o) := by
  unfold Bus.write
  rw [h]
  rfl

end Sys2Proof.Machine
end

