-- ==== Sys2Proof/Laws/Decode.lean ====
section
/-! SUPPORT. What decoding a byte string is in terms of `decodeWindow`, and the lengths an instruction can have. -/

namespace Sys2Proof

/-- An instruction is one to three bytes long (R140). -/
theorem Entry.size_bounds (e : Entry) : 1 ≤ e.size ∧ e.size ≤ 3 := by
  cases e <;> simp [Entry.size]

/-- The length a window gives. -/
theorem decodeWindow_bounds (b0 b1 b2 : Byte) :
    1 ≤ (decodeWindow b0 b1 b2).2 ∧ (decodeWindow b0 b1 b2).2 ≤ 3 :=
  Entry.size_bounds _

/-- Three bytes are always enough to decode one instruction (R140, R152). -/
theorem decode_of_three (b0 b1 b2 : Byte) (rest : List Byte) :
    decode (b0 :: b1 :: b2 :: rest) =
      .ok ((decodeWindow b0 b1 b2).1, (b0 :: b1 :: b2 :: rest).drop (decodeWindow b0 b1 b2).2) := by
  obtain ⟨h1, h3⟩ := decodeWindow_bounds b0 b1 b2
  have e : ((b0 :: b1 :: b2 :: rest).drop (decodeWindow b0 b1 b2).2) =
      (b1 :: b2 :: rest).drop ((decodeWindow b0 b1 b2).2 - 1) := by
    obtain ⟨n, hn⟩ := Nat.exists_eq_succ_of_ne_zero (Nat.ne_of_gt h1)
    rw [hn]; rfl
  rw [e]
  show (if (b1 :: b2 :: rest).length + 1 < (decodeWindow b0 b1 b2).2 then _ else _) = _
  rw [if_neg (by simp only [List.length_cons]; omega)]
  rfl

/-- A fetch window is what decoding exactly its three bytes gives. -/
theorem decodeWindow_of_decode {b0 b1 b2 : Byte} {i : Instr} {rest : List Byte}
    (h : decode [b0, b1, b2] = .ok (i, rest)) : decodeWindow b0 b1 b2 = (i, 3 - rest.length) := by
  rw [decode_of_three] at h
  obtain ⟨h1, h3⟩ := decodeWindow_bounds b0 b1 b2
  injection h with h
  injection h with hi hr
  ext1
  · exact hi
  · rw [← hr, List.length_drop]
    simp only [List.length_cons, List.length_nil]
    omega

end Sys2Proof
end

