-- ==== Sys2Proof/Laws/Devices.lean ====
section
/-! SUPPORT. The device steps: what each touches, and that each keeps the bus legal. -/

namespace Sys2Proof.Machine

/-! ## Timer, serial port, joypad -/

/-- One T-cycle of the timer touches the timer and IF only. -/
theorem Bus.timerTick_frame (b : Bus) : b.timerTick = { b with timer := b.timerTick.timer, ifl := b.timerTick.ifl } := by
  unfold Bus.timerTick Bus.timaInc
  simp only
  split_ifs <;> rfl

/-- The timer step touches the timer and IF only. -/
theorem Bus.timerStep_frame (c : Nat) (b : Bus) :
    b.timerStep c = { b with timer := (b.timerStep c).timer, ifl := (b.timerStep c).ifl } := by
  induction c generalizing b with
  | zero => rfl
  | succ c ih =>
    have e := ih b.timerTick
    have f := Bus.timerTick_frame b
    show Bus.timerStep c b.timerTick =
      { b with timer := (Bus.timerStep c b.timerTick).timer, ifl := (Bus.timerStep c b.timerTick).ifl }
    generalize Bus.timerStep c b.timerTick = t at e ⊢
    rw [f] at e
    exact e

/-- The serial step touches the serial port and IF only. -/
theorem Bus.serialStep_frame (c : Nat) (b : Bus) :
    b.serialStep c = { b with serial := (b.serialStep c).serial, ifl := (b.serialStep c).ifl } := by
  unfold Bus.serialStep
  split_ifs <;> rfl

/-- The I/O step keeps the bus legal, and leaves the display controller, the cartridge and every array alone. -/
theorem Bus.ioStep_frame (c : Nat) (b : Bus) :
    b.ioStep c = { b with
      timer   := (b.ioStep c).timer
      serial  := (b.ioStep c).serial
      ifl     := (b.ioStep c).ifl
      joyPrev := (b.ioStep c).joyPrev } := by
  unfold Bus.ioStep Bus.joypadStep
  rw [Bus.serialStep_frame, Bus.timerStep_frame]

/-- The I/O step keeps the bus legal. -/
theorem Bus.Ok.ioStep {b : Bus} (h : b.Ok) (c : Nat) : (b.ioStep c).Ok := by
  rw [Bus.ioStep_frame]
  generalize b.ioStep c = b'
  exact { h with }

/-! ## The display controller -/

/-- What holds of a running display controller between two crossings of `ppu_step`, when `dot` may still exceed the mode's width. -/
structure Ppu.Running (p : Ppu) : Prop where
  on     : p.lcdOn = true
  ly     : p.ly.toNat ≤ 153
  mode   : p.mode = .vblank ↔ 144 ≤ p.ly.toNat
  window : p.windowLine ≤ p.windowBound
  back   : Store.wf (144 * 160) p.fbBack = true
  front  : Store.wf (144 * 160) p.fbFront = true

/-- A painted row stays inside the framebuffer. -/
theorem wf_paintFold (b : Bus) (y : Nat) (hy : y < 144) : ∀ (l : List Nat) (fb : Store 2), (∀ x ∈ l, x < 160) →
    Store.wf (144 * 160) fb = true →
    Store.wf (144 * 160) (l.foldl (fun fb x => cellSet fb (y * 160 + x) (b.pixelShade y x)) fb) = true
  | [], _, _, h => h
  | x :: l, fb, hl, h => by
    rw [List.foldl_cons]
    refine wf_paintFold b y hy l _ (fun j hj => hl j (List.mem_cons_of_mem _ hj)) ?_
    have := hl x List.mem_cons_self
    exact wf_cellSet h (by omega)

/-- `render_line` keeps the back framebuffer canonical and inside its size. -/
theorem wf_paintRow (b : Bus) (y : Nat) (hy : y < 144) (h : Store.wf (144 * 160) b.ppu.fbBack = true) :
    Store.wf (144 * 160) (b.paintRow y) = true :=
  wf_paintFold b y hy _ _ (fun x hx => by simpa using hx) h

/-- Each crossing touches the display controller and IF only. -/
theorem Bus.crossMode_frame (b : Bus) : b.crossMode = { b with ppu := b.crossMode.ppu, ifl := b.crossMode.ifl } := by
  unfold Bus.crossMode Bus.boundary Bus.renderLine Bus.vblankEntry
  simp only
  split
  · rfl
  · rfl
  · split_ifs <;> rfl
  · split_ifs <;> rfl

/-- Each crossing takes the width of the mode it leaves off `dot` (R372). -/
theorem Bus.crossMode_dot (b : Bus) : b.crossMode.ppu.dot = b.ppu.dot - b.ppu.mode.width := by
  unfold Bus.crossMode Bus.boundary Bus.renderLine Bus.vblankEntry
  simp only
  split
  · rfl
  · rfl
  · split_ifs <;> rfl
  · split_ifs <;> rfl

/-- The next scanline's number. -/
theorem ly_succ {ly : Byte} (h : ly.toNat ≤ 153) : (ly + 1).toNat = ly.toNat + 1 := by
  rw [BitVec.toNat_add]; simp; omega

/-- `render_line` in mode 3 keeps the bound on the window's row counter, which hblank counts one further. -/
theorem renderLine_windowBound (b : Bus) (y : Nat) (hly : b.ppu.ly.toNat < 144) (hw : b.ppu.windowLine ≤ b.ppu.ly.toNat) :
    ((b.renderLine y).boundary .hblank).ppu.windowLine ≤ ((b.renderLine y).boundary .hblank).ppu.windowBound := by
  have e : ((b.renderLine y).boundary .hblank).ppu.windowBound = b.ppu.ly.toNat + 1 := by
    show (if 144 ≤ b.ppu.ly.toNat then 144 else b.ppu.ly.toNat + (if DisplayMode.hblank = .hblank then 1 else 0)) = _
    rw [if_neg (by omega), if_pos rfl]
  rw [e]
  show (if b.windowShown y then b.ppu.windowLine + 1 else b.ppu.windowLine) ≤ _
  split_ifs <;> omega

/-- The crossing from mode 3 to mode 0, which draws the scanline. -/
theorem renderLine_running (b : Bus) (hon : b.ppu.lcdOn = true) (hly : b.ppu.ly.toNat < 144)
    (hw : b.ppu.windowLine ≤ b.ppu.ly.toNat) (hb : Store.wf (144 * 160) b.ppu.fbBack = true)
    (hf : Store.wf (144 * 160) b.ppu.fbFront = true) : ((b.renderLine b.ppu.ly.toNat).boundary .hblank).ppu.Running where
  on     := hon
  ly     := by show b.ppu.ly.toNat ≤ 153; omega
  mode   := by
    show DisplayMode.hblank = .vblank ↔ 144 ≤ b.ppu.ly.toNat
    exact ⟨fun e => absurd e (by decide), fun e => absurd e (by omega)⟩
  window := renderLine_windowBound b _ hly hw
  back   := by
    have e : ((b.renderLine b.ppu.ly.toNat).boundary .hblank).ppu.fbBack = b.paintRow b.ppu.ly.toNat := by
      unfold Bus.boundary Bus.renderLine
      simp only
    rw [e]
    exact wf_paintRow b _ hly hb
  front  := hf

/-- Each crossing keeps what holds of a running display controller. -/
theorem Ppu.Running.crossMode {b : Bus} (h : b.ppu.Running) : b.crossMode.ppu.Running := by
  have hly := h.ly
  have hw := h.window
  have hsucc := ly_succ hly
  unfold Ppu.windowBound at hw
  unfold Bus.crossMode
  simp only
  split
  · rename_i hm
    have hlt : ¬ 144 ≤ b.ppu.ly.toNat := by rw [← h.mode, hm]; simp
    simp only [hlt, hm, if_false] at hw
    refine ⟨h.on, hly, ?_, ?_, h.back, h.front⟩
    · simp [Bus.boundary]; omega
    · simp [Bus.boundary, Ppu.windowBound, hlt]; simpa using hw
  · rename_i hm
    have hlt : ¬ 144 ≤ b.ppu.ly.toNat := by rw [← h.mode, hm]; simp
    simp only [hlt, hm, if_false] at hw
    exact renderLine_running _ h.on (Nat.lt_of_not_le hlt) (by simpa using hw) h.back h.front
  · rename_i hm
    have hlt : ¬ 144 ≤ b.ppu.ly.toNat := by rw [← h.mode, hm]; simp
    simp only [hlt, hm, if_false, if_true] at hw
    split_ifs with h144
    · have e : (b.ppu.ly + 1).toNat = 144 := by rw [h144]; rfl
      refine ⟨h.on, ?_, ?_, ?_, h.front, h.back⟩
      · show (b.ppu.ly + 1).toNat ≤ 153; omega
      · show DisplayMode.vblank = .vblank ↔ 144 ≤ (b.ppu.ly + 1).toNat
        rw [e]; simp
      · show b.ppu.windowLine ≤ if 144 ≤ (b.ppu.ly + 1).toNat then 144 else _
        rw [e]; simp; omega
    · have e : (b.ppu.ly + 1).toNat ≠ 144 := fun e => h144 (BitVec.eq_of_toNat_eq (by rw [e]; rfl))
      have hlt' : ¬ 144 ≤ (b.ppu.ly + 1).toNat := by omega
      refine ⟨h.on, ?_, ?_, ?_, h.back, h.front⟩
      · show (b.ppu.ly + 1).toNat ≤ 153; omega
      · show DisplayMode.oamScan = .vblank ↔ 144 ≤ (b.ppu.ly + 1).toNat
        exact ⟨fun e => absurd e (by decide), fun e => absurd e hlt'⟩
      · show b.ppu.windowLine ≤ if 144 ≤ (b.ppu.ly + 1).toNat then 144 else (b.ppu.ly + 1).toNat + _
        simp only [hlt', if_false]; omega
  · rename_i hm
    have hge : 144 ≤ b.ppu.ly.toNat := by rw [← h.mode, hm]
    simp only [hge, if_true] at hw
    split_ifs with h154
    · refine ⟨h.on, ?_, ?_, ?_, h.back, h.front⟩
      · show (0 : Byte).toNat ≤ 153; decide
      · show DisplayMode.oamScan = .vblank ↔ 144 ≤ (0 : Byte).toNat
        decide
      · show 0 ≤ _; omega
    · have e : (b.ppu.ly + 1).toNat ≠ 154 := fun e => h154 (BitVec.eq_of_toNat_eq (by rw [e]; rfl))
      have hge' : 144 ≤ (b.ppu.ly + 1).toNat := by omega
      refine ⟨h.on, ?_, ?_, ?_, h.back, h.front⟩
      · show (b.ppu.ly + 1).toNat ≤ 153; omega
      · show DisplayMode.vblank = .vblank ↔ 144 ≤ (b.ppu.ly + 1).toNat
        exact ⟨fun _ => hge', fun _ => rfl⟩
      · show b.ppu.windowLine ≤ if 144 ≤ (b.ppu.ly + 1).toNat then 144 else _
        simp only [hge', if_true]; exact hw

/-- No mode is narrower than 80 T-cycles (R371). -/
theorem DisplayMode.width_ge (m : DisplayMode) : 80 ≤ m.width := by cases m <;> decide

/-- The loop of `ppu_step` touches the display controller and IF only. -/
theorem Bus.crossModes_frame : ∀ (fuel : Nat) (b : Bus),
    Bus.crossModes fuel b = { b with ppu := (Bus.crossModes fuel b).ppu, ifl := (Bus.crossModes fuel b).ifl }
  | 0, _ => rfl
  | fuel + 1, b => by
    unfold Bus.crossModes
    split_ifs
    · rfl
    · have e := Bus.crossModes_frame fuel b.crossMode
      have f := Bus.crossMode_frame b
      generalize Bus.crossModes fuel b.crossMode = t at e ⊢
      rw [f] at e
      exact e

/-- With enough fuel the loop of `ppu_step` ends where the spec's does, with `dot` below the mode's width (R45, R53 (d), R372). -/
theorem Ppu.Running.crossModes : ∀ {fuel : Nat} {b : Bus}, b.ppu.Running → b.ppu.dot / 80 < fuel →
    (Bus.crossModes fuel b).ppu.Running ∧
      (Bus.crossModes fuel b).ppu.dot < (Bus.crossModes fuel b).ppu.mode.width
  | 0, _, _, hf => by omega
  | fuel + 1, b, h, hf => by
    unfold Bus.crossModes
    split_ifs with hd
    · exact ⟨h, hd⟩
    · refine Ppu.Running.crossModes h.crossMode ?_
      rw [Bus.crossMode_dot]
      have := DisplayMode.width_ge b.ppu.mode
      omega

/-- When `boundary(m)` requests LCD_STAT (R375), in terms of STAT's bits. -/
theorem Ppu.boundaryRaises_iff (p : Ppu) (m : DisplayMode) :
    p.boundaryRaises m = true ↔
      (m ≠ p.mode ∧ p.entryEnabled m = true) ∨ (p.ly = p.lyc ∧ p.coincidence = false ∧ p.lycEnabled = true) := by
  unfold Ppu.boundaryRaises
  rw [Bool.or_eq_true, Bool.and_eq_true, Bool.and_eq_true, Bool.and_eq_true, decide_eq_true_eq, decide_eq_true_eq,
    Bool.not_eq_true', and_assoc]

/-- Below the mode's width the loop of `ppu_step` has nothing to cross (R372). -/
theorem Bus.crossModes_of_lt {b : Bus} (h : b.ppu.dot < b.ppu.mode.width) : ∀ fuel, Bus.crossModes fuel b = b
  | 0 => rfl
  | fuel + 1 => by
    unfold Bus.crossModes
    rw [if_pos h]

/-- A `ppu_step` that crosses one boundary and stops (R372): `b'` is the display with the T-cycles added to `dot`. -/
theorem Bus.ppuStep_of_one {b b' : Bus} {c : Nat} (hon : b.ppu.lcdOn = true)
    (hb : b' = { b with ppu := { b.ppu with dot := b.ppu.dot + c } }) (hge : b.ppu.mode.width ≤ b.ppu.dot + c)
    (hlt : b'.crossMode.ppu.dot < b'.crossMode.ppu.mode.width) : b.ppuStep c = b'.crossMode := by
  have hcross : ¬ b'.ppu.dot < b'.ppu.mode.width := by
    rw [hb]
    exact Nat.not_lt.2 hge
  unfold Bus.ppuStep
  rw [if_pos hon]
  simp only
  rw [← hb]
  unfold Bus.crossModes
  rw [if_neg hcross]
  exact Bus.crossModes_of_lt hlt _

/-- A crossing publishes at most one frame, and changes the front framebuffer only when it publishes one (R376, R53 (h)). -/
theorem Bus.crossMode_frames (b : Bus) :
    b.ppu.frames ≤ b.crossMode.ppu.frames ∧
    (b.crossMode.ppu.frames = b.ppu.frames → b.crossMode.ppu.fbFront = b.ppu.fbFront) := by
  unfold Bus.crossMode Bus.boundary Bus.renderLine Bus.vblankEntry
  simp only
  split
  · exact ⟨le_rfl, fun _ => rfl⟩
  · exact ⟨le_rfl, fun _ => rfl⟩
  · split_ifs
    · exact ⟨Nat.le_succ _, fun h => absurd h (Nat.succ_ne_self _)⟩
    · exact ⟨le_rfl, fun _ => rfl⟩
  · split_ifs <;> exact ⟨le_rfl, fun _ => rfl⟩

/-- The same of the whole loop. -/
theorem Bus.crossModes_frames : ∀ (fuel : Nat) (b : Bus),
    b.ppu.frames ≤ (Bus.crossModes fuel b).ppu.frames ∧
    ((Bus.crossModes fuel b).ppu.frames = b.ppu.frames → (Bus.crossModes fuel b).ppu.fbFront = b.ppu.fbFront)
  | 0, _ => ⟨le_rfl, fun _ => rfl⟩
  | fuel + 1, b => by
    unfold Bus.crossModes
    split_ifs
    · exact ⟨le_rfl, fun _ => rfl⟩
    · obtain ⟨h1, h2⟩ := Bus.crossModes_frames fuel b.crossMode
      obtain ⟨h3, h4⟩ := Bus.crossMode_frames b
      exact ⟨h3.trans h1, fun e => (h2 (by omega)).trans (h4 (by omega))⟩

/-- `ppu_step` touches the display controller and IF only. -/
theorem Bus.ppuStep_frame (c : Nat) (b : Bus) :
    b.ppuStep c = { b with ppu := (b.ppuStep c).ppu, ifl := (b.ppuStep c).ifl } := by
  unfold Bus.ppuStep
  split_ifs
  · simp only
    rw [Bus.crossModes_frame]
  · rfl

/-- `ppu_step` changes the front framebuffer only when it publishes a frame (R376, R53 (h)). -/
theorem Bus.ppuStep_frames (c : Nat) (b : Bus) :
    b.ppu.frames ≤ (b.ppuStep c).ppu.frames ∧
    ((b.ppuStep c).ppu.frames = b.ppu.frames → (b.ppuStep c).ppu.fbFront = b.ppu.fbFront) := by
  unfold Bus.ppuStep
  split_ifs
  · exact Bus.crossModes_frames _ { b with ppu := { b.ppu with dot := b.ppu.dot + c } }
  · exact ⟨le_rfl, fun _ => rfl⟩

/-- `ppu_step` keeps the display controller legal. -/
theorem Ppu.Ok.ppuStep {b : Bus} (h : b.ppu.Ok) (c : Nat) : (b.ppuStep c).ppu.Ok := by
  unfold Bus.ppuStep
  split_ifs with hon
  · have hr : ({ b with ppu := { b.ppu with dot := b.ppu.dot + c } } : Bus).ppu.Running :=
      ⟨hon, h.ly, h.modeOn hon, h.window, h.back, h.front⟩
    obtain ⟨h1, h2⟩ := hr.crossModes (Nat.lt_succ_self _)
    simp only
    refine ⟨h1.ly, fun _ => h1.mode, fun hoff => ?_, h2, h1.window, h1.back, h1.front⟩
    rw [h1.on] at hoff
    exact absurd hoff (by simp)
  · exact h

/-- `ppu_step` keeps the bus legal. -/
theorem Bus.Ok.ppuStep {b : Bus} (h : b.Ok) (c : Nat) : (b.ppuStep c).Ok := by
  have hp := h.ppu.ppuStep c
  rw [Bus.ppuStep_frame]
  generalize b.ppuStep c = b' at hp ⊢
  exact h.withPpu hp b'.ifl

end Sys2Proof.Machine
end

