-- ==== Sys2Proof/Laws/Flags.lean ====
section
/-! SUPPORT. Flag bytes, pairs of bytes and bit slices: the small lemmas by which a meaning's result is read off bit by bit. -/

namespace Sys2Proof.Machine

/-- The four flags of an assembled flag byte, and its zero low nibble (R23, R24). -/
theorem flagsAre_mkFlags (z n h c : Bool) : FlagsAre (mkFlags z n h c) z n h c := by
  cases z <;> cases n <;> cases h <;> cases c <;> unfold FlagsAre <;> decide

/-- Z of an assembled flag byte. -/
@[simp] theorem flagZ_mkFlags (z n h c : Bool) : flagZ (mkFlags z n h c) = z := (flagsAre_mkFlags z n h c).1

/-- N of an assembled flag byte. -/
@[simp] theorem flagN_mkFlags (z n h c : Bool) : flagN (mkFlags z n h c) = n := (flagsAre_mkFlags z n h c).2.1

/-- Hf of an assembled flag byte. -/
@[simp] theorem flagH_mkFlags (z n h c : Bool) : flagH (mkFlags z n h c) = h := (flagsAre_mkFlags z n h c).2.2.1

/-- Cf of an assembled flag byte. -/
@[simp] theorem flagC_mkFlags (z n h c : Bool) : flagC (mkFlags z n h c) = c := (flagsAre_mkFlags z n h c).2.2.2.1

/-- F[3:0] of an assembled flag byte (R24). -/
@[simp] theorem lowNibble_mkFlags (z n h c : Bool) : (mkFlags z n h c).extractLsb' 0 4 = 0 := by
  cases z <;> cases n <;> cases h <;> cases c <;> decide

/-- F[3:0] of a masked flag byte (R24, R207). -/
@[simp] theorem lowNibble_maskFlags (v : Byte) : (maskFlags v).extractLsb' 0 4 = 0 := by
  unfold maskFlags; revert v; decide

/-- Masking keeps the four flags (R207). -/
theorem flagsAre_maskFlags (v : Byte) :
    FlagsAre (maskFlags v) (v.getLsbD 7) (v.getLsbD 6) (v.getLsbD 5) (v.getLsbD 4) := by
  unfold FlagsAre maskFlags; revert v; decide

/-- Masking does nothing to a flag byte with a zero low nibble (R24). -/
theorem maskFlags_of_lowNibble {v : Byte} : v.extractLsb' 0 4 = 0 → maskFlags v = v := by
  unfold maskFlags; revert v; decide

/-- `isZero` as a comparison of integers. -/
theorem isZero_eq (v : Byte) : isZero v = decide (v.toNat = 0) := by
  unfold isZero; revert v; decide

/-- Splitting a word and joining its bytes (R66). -/
@[simp] theorem joinBytes_hiByte_loByte (w : Word) : joinBytes (hiByte w) (loByte w) = w := by
  unfold joinBytes hiByte loByte
  rw [BitVec.extractLsb'_append_extractLsb'_eq_extractLsb' (by rfl)]
  simp

/-- The high byte of a joined pair. -/
@[simp] theorem hiByte_joinBytes (hi lo : Byte) : hiByte (joinBytes hi lo) = hi := by
  apply BitVec.eq_of_getLsbD_eq
  intro i h
  unfold hiByte joinBytes
  simp only [BitVec.getLsbD_extractLsb', BitVec.getLsbD_append]
  simp [h]

/-- The low byte of a joined pair. -/
@[simp] theorem loByte_joinBytes (hi lo : Byte) : loByte (joinBytes hi lo) = lo := by
  apply BitVec.eq_of_getLsbD_eq
  intro i h
  unfold loByte joinBytes
  simp only [BitVec.getLsbD_extractLsb', BitVec.getLsbD_append]
  simp [h]

/-- The low byte as an integer. -/
theorem loByte_eq (w : Word) : loByte w = byteOf (w.toNat % 256) := by
  unfold loByte byteOf
  apply BitVec.eq_of_toNat_eq
  simp

/-- The high byte as an integer. -/
theorem hiByte_eq (w : Word) : hiByte w = byteOf (w.toNat / 256) := by
  unfold hiByte byteOf
  apply BitVec.eq_of_toNat_eq
  simp [Nat.shiftRight_eq_div_pow]

/-- A joined pair as an integer. -/
theorem joinBytes_toNat (hi lo : Byte) : (joinBytes hi lo).toNat = 256 * hi.toNat + lo.toNat := by
  unfold joinBytes
  rw [BitVec.toNat_append, Nat.shiftLeft_eq, Nat.mul_comm, ← Nat.two_pow_add_eq_or_of_lt lo.isLt]

/-- Sign extension as an integer modulo 2^16 (R11). -/
theorem signExtend16_toInt (v : Byte) : (signExtend16 v).toInt = v.toInt := by
  unfold signExtend16
  exact BitVec.toInt_signExtend_of_le (by decide)

/-- Only the prefix byte makes a documented cost depend on the second byte. -/
theorem documentedCost_of_ne {b0 : Byte} (h : b0 ≠ 0xCB) (b1 : Byte) (taken : Bool) :
    documentedCost b0 b1 taken = documentedCost b0 0 taken := by
  unfold documentedCost
  rw [if_neg h, if_neg h]

/-- Only the prefix byte makes a flag column depend on the second byte. -/
theorem documentedFlags_of_ne {b0 : Byte} (h : b0 ≠ 0xCB) (b1 : Byte) : documentedFlags b0 b1 = documentedFlags b0 0 := by
  unfold documentedFlags
  rw [if_neg h, if_neg h]

end Sys2Proof.Machine
end

