-- ==== Sys2Proof/Laws/State.lean ====
section
/-! SUPPORT. One lemma per field per update of State, so that no later proof unfolds a record update. -/

namespace Sys2Proof.Machine

@[simp] theorem State.tick_regs (s : State) (n : Nat) : (s.tick n).regs = s.regs := rfl
@[simp] theorem State.tick_ime (s : State) (n : Nat) : (s.tick n).ime = s.ime := rfl
@[simp] theorem State.tick_eiPending (s : State) (n : Nat) : (s.tick n).eiPending = s.eiPending := rfl
@[simp] theorem State.tick_halted (s : State) (n : Nat) : (s.tick n).halted = s.halted := rfl
@[simp] theorem State.tick_cpuAlive (s : State) (n : Nat) : (s.tick n).cpuAlive = s.cpuAlive := rfl
@[simp] theorem State.tick_bus (s : State) (n : Nat) : (s.tick n).bus = s.bus := rfl
@[simp] theorem State.tick_quantum (s : State) (n : Nat) : (s.tick n).quantum = s.quantum := rfl
@[simp] theorem State.tick_consumed (s : State) (n : Nat) : (s.tick n).consumed = s.consumed + n := rfl
@[simp] theorem State.tick_carry (s : State) (n : Nat) : (s.tick n).carry = s.carry := rfl
@[simp] theorem State.tick_cpuCycles (s : State) (n : Nat) : (s.tick n).cpuCycles = s.cpuCycles + n := rfl
@[simp] theorem State.tick_deviceCycles (s : State) (n : Nat) : (s.tick n).deviceCycles = s.deviceCycles := rfl
@[simp] theorem State.tick_inputs (s : State) (n : Nat) : (s.tick n).inputs = s.inputs := rfl

@[simp] theorem State.setPc_regs (s : State) (v : Word) : (s.setPc v).regs = { s.regs with pc := v } := rfl
@[simp] theorem State.setPc_ime (s : State) (v : Word) : (s.setPc v).ime = s.ime := rfl
@[simp] theorem State.setPc_eiPending (s : State) (v : Word) : (s.setPc v).eiPending = s.eiPending := rfl
@[simp] theorem State.setPc_halted (s : State) (v : Word) : (s.setPc v).halted = s.halted := rfl
@[simp] theorem State.setPc_cpuAlive (s : State) (v : Word) : (s.setPc v).cpuAlive = s.cpuAlive := rfl
@[simp] theorem State.setPc_bus (s : State) (v : Word) : (s.setPc v).bus = s.bus := rfl
@[simp] theorem State.setPc_quantum (s : State) (v : Word) : (s.setPc v).quantum = s.quantum := rfl
@[simp] theorem State.setPc_consumed (s : State) (v : Word) : (s.setPc v).consumed = s.consumed := rfl
@[simp] theorem State.setPc_carry (s : State) (v : Word) : (s.setPc v).carry = s.carry := rfl
@[simp] theorem State.setPc_cpuCycles (s : State) (v : Word) : (s.setPc v).cpuCycles = s.cpuCycles := rfl
@[simp] theorem State.setPc_deviceCycles (s : State) (v : Word) : (s.setPc v).deviceCycles = s.deviceCycles := rfl
@[simp] theorem State.setPc_inputs (s : State) (v : Word) : (s.setPc v).inputs = s.inputs := rfl

@[simp] theorem State.setSp_regs (s : State) (v : Word) : (s.setSp v).regs = { s.regs with sp := v } := rfl
@[simp] theorem State.setSp_ime (s : State) (v : Word) : (s.setSp v).ime = s.ime := rfl
@[simp] theorem State.setSp_eiPending (s : State) (v : Word) : (s.setSp v).eiPending = s.eiPending := rfl
@[simp] theorem State.setSp_halted (s : State) (v : Word) : (s.setSp v).halted = s.halted := rfl
@[simp] theorem State.setSp_cpuAlive (s : State) (v : Word) : (s.setSp v).cpuAlive = s.cpuAlive := rfl
@[simp] theorem State.setSp_bus (s : State) (v : Word) : (s.setSp v).bus = s.bus := rfl
@[simp] theorem State.setSp_quantum (s : State) (v : Word) : (s.setSp v).quantum = s.quantum := rfl
@[simp] theorem State.setSp_consumed (s : State) (v : Word) : (s.setSp v).consumed = s.consumed := rfl
@[simp] theorem State.setSp_carry (s : State) (v : Word) : (s.setSp v).carry = s.carry := rfl
@[simp] theorem State.setSp_cpuCycles (s : State) (v : Word) : (s.setSp v).cpuCycles = s.cpuCycles := rfl
@[simp] theorem State.setSp_deviceCycles (s : State) (v : Word) : (s.setSp v).deviceCycles = s.deviceCycles := rfl
@[simp] theorem State.setSp_inputs (s : State) (v : Word) : (s.setSp v).inputs = s.inputs := rfl

@[simp] theorem State.setA_regs (s : State) (v : Byte) : (s.setA v).regs = { s.regs with a := v } := rfl
@[simp] theorem State.setA_ime (s : State) (v : Byte) : (s.setA v).ime = s.ime := rfl
@[simp] theorem State.setA_eiPending (s : State) (v : Byte) : (s.setA v).eiPending = s.eiPending := rfl
@[simp] theorem State.setA_halted (s : State) (v : Byte) : (s.setA v).halted = s.halted := rfl
@[simp] theorem State.setA_cpuAlive (s : State) (v : Byte) : (s.setA v).cpuAlive = s.cpuAlive := rfl
@[simp] theorem State.setA_bus (s : State) (v : Byte) : (s.setA v).bus = s.bus := rfl
@[simp] theorem State.setA_quantum (s : State) (v : Byte) : (s.setA v).quantum = s.quantum := rfl
@[simp] theorem State.setA_consumed (s : State) (v : Byte) : (s.setA v).consumed = s.consumed := rfl
@[simp] theorem State.setA_carry (s : State) (v : Byte) : (s.setA v).carry = s.carry := rfl
@[simp] theorem State.setA_cpuCycles (s : State) (v : Byte) : (s.setA v).cpuCycles = s.cpuCycles := rfl
@[simp] theorem State.setA_deviceCycles (s : State) (v : Byte) : (s.setA v).deviceCycles = s.deviceCycles := rfl
@[simp] theorem State.setA_inputs (s : State) (v : Byte) : (s.setA v).inputs = s.inputs := rfl

@[simp] theorem State.setF_regs (s : State) (v : Byte) : (s.setF v).regs = { s.regs with f := v } := rfl
@[simp] theorem State.setF_ime (s : State) (v : Byte) : (s.setF v).ime = s.ime := rfl
@[simp] theorem State.setF_eiPending (s : State) (v : Byte) : (s.setF v).eiPending = s.eiPending := rfl
@[simp] theorem State.setF_halted (s : State) (v : Byte) : (s.setF v).halted = s.halted := rfl
@[simp] theorem State.setF_cpuAlive (s : State) (v : Byte) : (s.setF v).cpuAlive = s.cpuAlive := rfl
@[simp] theorem State.setF_bus (s : State) (v : Byte) : (s.setF v).bus = s.bus := rfl
@[simp] theorem State.setF_quantum (s : State) (v : Byte) : (s.setF v).quantum = s.quantum := rfl
@[simp] theorem State.setF_consumed (s : State) (v : Byte) : (s.setF v).consumed = s.consumed := rfl
@[simp] theorem State.setF_carry (s : State) (v : Byte) : (s.setF v).carry = s.carry := rfl
@[simp] theorem State.setF_cpuCycles (s : State) (v : Byte) : (s.setF v).cpuCycles = s.cpuCycles := rfl
@[simp] theorem State.setF_deviceCycles (s : State) (v : Byte) : (s.setF v).deviceCycles = s.deviceCycles := rfl
@[simp] theorem State.setF_inputs (s : State) (v : Byte) : (s.setF v).inputs = s.inputs := rfl

@[simp] theorem State.setHl_regs (s : State) (v : Word) : (s.setHl v).regs = { s.regs with h := hiByte v, l := loByte v } := rfl
@[simp] theorem State.setHl_ime (s : State) (v : Word) : (s.setHl v).ime = s.ime := rfl
@[simp] theorem State.setHl_eiPending (s : State) (v : Word) : (s.setHl v).eiPending = s.eiPending := rfl
@[simp] theorem State.setHl_halted (s : State) (v : Word) : (s.setHl v).halted = s.halted := rfl
@[simp] theorem State.setHl_cpuAlive (s : State) (v : Word) : (s.setHl v).cpuAlive = s.cpuAlive := rfl
@[simp] theorem State.setHl_bus (s : State) (v : Word) : (s.setHl v).bus = s.bus := rfl
@[simp] theorem State.setHl_quantum (s : State) (v : Word) : (s.setHl v).quantum = s.quantum := rfl
@[simp] theorem State.setHl_consumed (s : State) (v : Word) : (s.setHl v).consumed = s.consumed := rfl
@[simp] theorem State.setHl_carry (s : State) (v : Word) : (s.setHl v).carry = s.carry := rfl
@[simp] theorem State.setHl_cpuCycles (s : State) (v : Word) : (s.setHl v).cpuCycles = s.cpuCycles := rfl
@[simp] theorem State.setHl_deviceCycles (s : State) (v : Word) : (s.setHl v).deviceCycles = s.deviceCycles := rfl
@[simp] theorem State.setHl_inputs (s : State) (v : Word) : (s.setHl v).inputs = s.inputs := rfl

@[simp] theorem State.setReg_regs (s : State) (i : Reg8) (v : Byte) : (s.setReg i v).regs = s.regs.set i v := rfl
@[simp] theorem State.setReg_ime (s : State) (i : Reg8) (v : Byte) : (s.setReg i v).ime = s.ime := rfl
@[simp] theorem State.setReg_eiPending (s : State) (i : Reg8) (v : Byte) : (s.setReg i v).eiPending = s.eiPending := rfl
@[simp] theorem State.setReg_halted (s : State) (i : Reg8) (v : Byte) : (s.setReg i v).halted = s.halted := rfl
@[simp] theorem State.setReg_cpuAlive (s : State) (i : Reg8) (v : Byte) : (s.setReg i v).cpuAlive = s.cpuAlive := rfl
@[simp] theorem State.setReg_bus (s : State) (i : Reg8) (v : Byte) : (s.setReg i v).bus = s.bus := rfl
@[simp] theorem State.setReg_quantum (s : State) (i : Reg8) (v : Byte) : (s.setReg i v).quantum = s.quantum := rfl
@[simp] theorem State.setReg_consumed (s : State) (i : Reg8) (v : Byte) : (s.setReg i v).consumed = s.consumed := rfl
@[simp] theorem State.setReg_carry (s : State) (i : Reg8) (v : Byte) : (s.setReg i v).carry = s.carry := rfl
@[simp] theorem State.setReg_cpuCycles (s : State) (i : Reg8) (v : Byte) : (s.setReg i v).cpuCycles = s.cpuCycles := rfl
@[simp] theorem State.setReg_deviceCycles (s : State) (i : Reg8) (v : Byte) : (s.setReg i v).deviceCycles = s.deviceCycles := rfl
@[simp] theorem State.setReg_inputs (s : State) (i : Reg8) (v : Byte) : (s.setReg i v).inputs = s.inputs := rfl

@[simp] theorem State.setReg16_regs (s : State) (i : Reg16) (v : Word) : (s.setReg16 i v).regs = s.regs.set16 i v := rfl
@[simp] theorem State.setReg16_ime (s : State) (i : Reg16) (v : Word) : (s.setReg16 i v).ime = s.ime := rfl
@[simp] theorem State.setReg16_eiPending (s : State) (i : Reg16) (v : Word) : (s.setReg16 i v).eiPending = s.eiPending := rfl
@[simp] theorem State.setReg16_halted (s : State) (i : Reg16) (v : Word) : (s.setReg16 i v).halted = s.halted := rfl
@[simp] theorem State.setReg16_cpuAlive (s : State) (i : Reg16) (v : Word) : (s.setReg16 i v).cpuAlive = s.cpuAlive := rfl
@[simp] theorem State.setReg16_bus (s : State) (i : Reg16) (v : Word) : (s.setReg16 i v).bus = s.bus := rfl
@[simp] theorem State.setReg16_quantum (s : State) (i : Reg16) (v : Word) : (s.setReg16 i v).quantum = s.quantum := rfl
@[simp] theorem State.setReg16_consumed (s : State) (i : Reg16) (v : Word) : (s.setReg16 i v).consumed = s.consumed := rfl
@[simp] theorem State.setReg16_carry (s : State) (i : Reg16) (v : Word) : (s.setReg16 i v).carry = s.carry := rfl
@[simp] theorem State.setReg16_cpuCycles (s : State) (i : Reg16) (v : Word) : (s.setReg16 i v).cpuCycles = s.cpuCycles := rfl
@[simp] theorem State.setReg16_deviceCycles (s : State) (i : Reg16) (v : Word) : (s.setReg16 i v).deviceCycles = s.deviceCycles := rfl
@[simp] theorem State.setReg16_inputs (s : State) (i : Reg16) (v : Word) : (s.setReg16 i v).inputs = s.inputs := rfl

@[simp] theorem State.setStack_regs (s : State) (i : StackPair) (v : Word) : (s.setStack i v).regs = s.regs.setStack i v := rfl
@[simp] theorem State.setStack_ime (s : State) (i : StackPair) (v : Word) : (s.setStack i v).ime = s.ime := rfl
@[simp] theorem State.setStack_eiPending (s : State) (i : StackPair) (v : Word) : (s.setStack i v).eiPending = s.eiPending := rfl
@[simp] theorem State.setStack_halted (s : State) (i : StackPair) (v : Word) : (s.setStack i v).halted = s.halted := rfl
@[simp] theorem State.setStack_cpuAlive (s : State) (i : StackPair) (v : Word) : (s.setStack i v).cpuAlive = s.cpuAlive := rfl
@[simp] theorem State.setStack_bus (s : State) (i : StackPair) (v : Word) : (s.setStack i v).bus = s.bus := rfl
@[simp] theorem State.setStack_quantum (s : State) (i : StackPair) (v : Word) : (s.setStack i v).quantum = s.quantum := rfl
@[simp] theorem State.setStack_consumed (s : State) (i : StackPair) (v : Word) : (s.setStack i v).consumed = s.consumed := rfl
@[simp] theorem State.setStack_carry (s : State) (i : StackPair) (v : Word) : (s.setStack i v).carry = s.carry := rfl
@[simp] theorem State.setStack_cpuCycles (s : State) (i : StackPair) (v : Word) : (s.setStack i v).cpuCycles = s.cpuCycles := rfl
@[simp] theorem State.setStack_deviceCycles (s : State) (i : StackPair) (v : Word) : (s.setStack i v).deviceCycles = s.deviceCycles := rfl
@[simp] theorem State.setStack_inputs (s : State) (i : StackPair) (v : Word) : (s.setStack i v).inputs = s.inputs := rfl

@[simp] theorem State.write_regs (s : State) (a : Word) (v : Byte) : (s.write a v).regs = s.regs := rfl
@[simp] theorem State.write_ime (s : State) (a : Word) (v : Byte) : (s.write a v).ime = s.ime := rfl
@[simp] theorem State.write_eiPending (s : State) (a : Word) (v : Byte) : (s.write a v).eiPending = s.eiPending := rfl
@[simp] theorem State.write_halted (s : State) (a : Word) (v : Byte) : (s.write a v).halted = s.halted := rfl
@[simp] theorem State.write_cpuAlive (s : State) (a : Word) (v : Byte) : (s.write a v).cpuAlive = s.cpuAlive := rfl
@[simp] theorem State.write_bus (s : State) (a : Word) (v : Byte) : (s.write a v).bus = s.bus.write a v := rfl
@[simp] theorem State.write_quantum (s : State) (a : Word) (v : Byte) : (s.write a v).quantum = s.quantum := rfl
@[simp] theorem State.write_consumed (s : State) (a : Word) (v : Byte) : (s.write a v).consumed = s.consumed := rfl
@[simp] theorem State.write_carry (s : State) (a : Word) (v : Byte) : (s.write a v).carry = s.carry := rfl
@[simp] theorem State.write_cpuCycles (s : State) (a : Word) (v : Byte) : (s.write a v).cpuCycles = s.cpuCycles := rfl
@[simp] theorem State.write_deviceCycles (s : State) (a : Word) (v : Byte) : (s.write a v).deviceCycles = s.deviceCycles := rfl
@[simp] theorem State.write_inputs (s : State) (a : Word) (v : Byte) : (s.write a v).inputs = s.inputs := rfl

@[simp] theorem State.write16_regs (s : State) (a v : Word) : (s.write16 a v).regs = s.regs := rfl
@[simp] theorem State.write16_ime (s : State) (a v : Word) : (s.write16 a v).ime = s.ime := rfl
@[simp] theorem State.write16_eiPending (s : State) (a v : Word) : (s.write16 a v).eiPending = s.eiPending := rfl
@[simp] theorem State.write16_halted (s : State) (a v : Word) : (s.write16 a v).halted = s.halted := rfl
@[simp] theorem State.write16_cpuAlive (s : State) (a v : Word) : (s.write16 a v).cpuAlive = s.cpuAlive := rfl
@[simp] theorem State.write16_bus (s : State) (a v : Word) : (s.write16 a v).bus = (s.bus.write a (loByte v)).write (a + 1) (hiByte v) := rfl
@[simp] theorem State.write16_quantum (s : State) (a v : Word) : (s.write16 a v).quantum = s.quantum := rfl
@[simp] theorem State.write16_consumed (s : State) (a v : Word) : (s.write16 a v).consumed = s.consumed := rfl
@[simp] theorem State.write16_carry (s : State) (a v : Word) : (s.write16 a v).carry = s.carry := rfl
@[simp] theorem State.write16_cpuCycles (s : State) (a v : Word) : (s.write16 a v).cpuCycles = s.cpuCycles := rfl
@[simp] theorem State.write16_deviceCycles (s : State) (a v : Word) : (s.write16 a v).deviceCycles = s.deviceCycles := rfl
@[simp] theorem State.write16_inputs (s : State) (a v : Word) : (s.write16 a v).inputs = s.inputs := rfl

@[simp] theorem State.push16_regs (s : State) (v : Word) : (s.push16 v).regs = { s.regs with sp := s.regs.sp - 2 } := rfl
@[simp] theorem State.push16_ime (s : State) (v : Word) : (s.push16 v).ime = s.ime := rfl
@[simp] theorem State.push16_eiPending (s : State) (v : Word) : (s.push16 v).eiPending = s.eiPending := rfl
@[simp] theorem State.push16_halted (s : State) (v : Word) : (s.push16 v).halted = s.halted := rfl
@[simp] theorem State.push16_cpuAlive (s : State) (v : Word) : (s.push16 v).cpuAlive = s.cpuAlive := rfl
@[simp] theorem State.push16_bus (s : State) (v : Word) : (s.push16 v).bus = (s.bus.write (s.regs.sp - 2) (loByte v)).write (s.regs.sp - 2 + 1) (hiByte v) := rfl
@[simp] theorem State.push16_quantum (s : State) (v : Word) : (s.push16 v).quantum = s.quantum := rfl
@[simp] theorem State.push16_consumed (s : State) (v : Word) : (s.push16 v).consumed = s.consumed := rfl
@[simp] theorem State.push16_carry (s : State) (v : Word) : (s.push16 v).carry = s.carry := rfl
@[simp] theorem State.push16_cpuCycles (s : State) (v : Word) : (s.push16 v).cpuCycles = s.cpuCycles := rfl
@[simp] theorem State.push16_deviceCycles (s : State) (v : Word) : (s.push16 v).deviceCycles = s.deviceCycles := rfl
@[simp] theorem State.push16_inputs (s : State) (v : Word) : (s.push16 v).inputs = s.inputs := rfl

@[simp] theorem State.dropTop_regs (s : State) : (s.dropTop).regs = { s.regs with sp := s.regs.sp + 2 } := rfl
@[simp] theorem State.dropTop_ime (s : State) : (s.dropTop).ime = s.ime := rfl
@[simp] theorem State.dropTop_eiPending (s : State) : (s.dropTop).eiPending = s.eiPending := rfl
@[simp] theorem State.dropTop_halted (s : State) : (s.dropTop).halted = s.halted := rfl
@[simp] theorem State.dropTop_cpuAlive (s : State) : (s.dropTop).cpuAlive = s.cpuAlive := rfl
@[simp] theorem State.dropTop_bus (s : State) : (s.dropTop).bus = s.bus := rfl
@[simp] theorem State.dropTop_quantum (s : State) : (s.dropTop).quantum = s.quantum := rfl
@[simp] theorem State.dropTop_consumed (s : State) : (s.dropTop).consumed = s.consumed := rfl
@[simp] theorem State.dropTop_carry (s : State) : (s.dropTop).carry = s.carry := rfl
@[simp] theorem State.dropTop_cpuCycles (s : State) : (s.dropTop).cpuCycles = s.cpuCycles := rfl
@[simp] theorem State.dropTop_deviceCycles (s : State) : (s.dropTop).deviceCycles = s.deviceCycles := rfl
@[simp] theorem State.dropTop_inputs (s : State) : (s.dropTop).inputs = s.inputs := rfl

@[simp] theorem State.popPc_regs (s : State) : (s.popPc).regs = { s.regs with sp := s.regs.sp + 2, pc := s.top16 } := rfl
@[simp] theorem State.popPc_ime (s : State) : (s.popPc).ime = s.ime := rfl
@[simp] theorem State.popPc_eiPending (s : State) : (s.popPc).eiPending = s.eiPending := rfl
@[simp] theorem State.popPc_halted (s : State) : (s.popPc).halted = s.halted := rfl
@[simp] theorem State.popPc_cpuAlive (s : State) : (s.popPc).cpuAlive = s.cpuAlive := rfl
@[simp] theorem State.popPc_bus (s : State) : (s.popPc).bus = s.bus := rfl
@[simp] theorem State.popPc_quantum (s : State) : (s.popPc).quantum = s.quantum := rfl
@[simp] theorem State.popPc_consumed (s : State) : (s.popPc).consumed = s.consumed := rfl
@[simp] theorem State.popPc_carry (s : State) : (s.popPc).carry = s.carry := rfl
@[simp] theorem State.popPc_cpuCycles (s : State) : (s.popPc).cpuCycles = s.cpuCycles := rfl
@[simp] theorem State.popPc_deviceCycles (s : State) : (s.popPc).deviceCycles = s.deviceCycles := rfl
@[simp] theorem State.popPc_inputs (s : State) : (s.popPc).inputs = s.inputs := rfl

@[simp] theorem State.advance_regs (s : State) (n : Nat) : (s.advance n).regs = { s.regs with pc := s.regs.pc + BitVec.ofNat 16 n } := rfl
@[simp] theorem State.advance_ime (s : State) (n : Nat) : (s.advance n).ime = s.ime := rfl
@[simp] theorem State.advance_eiPending (s : State) (n : Nat) : (s.advance n).eiPending = s.eiPending := rfl
@[simp] theorem State.advance_halted (s : State) (n : Nat) : (s.advance n).halted = s.halted := rfl
@[simp] theorem State.advance_cpuAlive (s : State) (n : Nat) : (s.advance n).cpuAlive = s.cpuAlive := rfl
@[simp] theorem State.advance_bus (s : State) (n : Nat) : (s.advance n).bus = s.bus := rfl
@[simp] theorem State.advance_quantum (s : State) (n : Nat) : (s.advance n).quantum = s.quantum := rfl
@[simp] theorem State.advance_consumed (s : State) (n : Nat) : (s.advance n).consumed = s.consumed := rfl
@[simp] theorem State.advance_carry (s : State) (n : Nat) : (s.advance n).carry = s.carry := rfl
@[simp] theorem State.advance_cpuCycles (s : State) (n : Nat) : (s.advance n).cpuCycles = s.cpuCycles := rfl
@[simp] theorem State.advance_deviceCycles (s : State) (n : Nat) : (s.advance n).deviceCycles = s.deviceCycles := rfl
@[simp] theorem State.advance_inputs (s : State) (n : Nat) : (s.advance n).inputs = s.inputs := rfl

@[simp] theorem State.after_regs (s : State) (r : Regs) (b : Bus) (n : Nat) : (s.after r b n).regs = r := rfl
@[simp] theorem State.after_ime (s : State) (r : Regs) (b : Bus) (n : Nat) : (s.after r b n).ime = s.ime := rfl
@[simp] theorem State.after_eiPending (s : State) (r : Regs) (b : Bus) (n : Nat) : (s.after r b n).eiPending = s.eiPending := rfl
@[simp] theorem State.after_halted (s : State) (r : Regs) (b : Bus) (n : Nat) : (s.after r b n).halted = s.halted := rfl
@[simp] theorem State.after_cpuAlive (s : State) (r : Regs) (b : Bus) (n : Nat) : (s.after r b n).cpuAlive = s.cpuAlive := rfl
@[simp] theorem State.after_bus (s : State) (r : Regs) (b : Bus) (n : Nat) : (s.after r b n).bus = b := rfl
@[simp] theorem State.after_quantum (s : State) (r : Regs) (b : Bus) (n : Nat) : (s.after r b n).quantum = s.quantum := rfl
@[simp] theorem State.after_consumed (s : State) (r : Regs) (b : Bus) (n : Nat) : (s.after r b n).consumed = s.consumed + n := rfl
@[simp] theorem State.after_carry (s : State) (r : Regs) (b : Bus) (n : Nat) : (s.after r b n).carry = s.carry := rfl
@[simp] theorem State.after_cpuCycles (s : State) (r : Regs) (b : Bus) (n : Nat) : (s.after r b n).cpuCycles = s.cpuCycles + n := rfl
@[simp] theorem State.after_deviceCycles (s : State) (r : Regs) (b : Bus) (n : Nat) : (s.after r b n).deviceCycles = s.deviceCycles := rfl
@[simp] theorem State.after_inputs (s : State) (r : Regs) (b : Bus) (n : Nat) : (s.after r b n).inputs = s.inputs := rfl

/-! The conditional updates: wake-up and the delayed effect of EI. -/

@[simp] theorem State.wake_regs (s : State) : s.wake.regs = s.regs := by
  unfold State.wake; split <;> rfl
@[simp] theorem State.wake_ime (s : State) : s.wake.ime = s.ime := by
  unfold State.wake; split <;> rfl
@[simp] theorem State.wake_eiPending (s : State) : s.wake.eiPending = s.eiPending := by
  unfold State.wake; split <;> rfl
@[simp] theorem State.wake_halted (s : State) : s.wake.halted = (s.halted && decide (s.pending = 0)) := by
  unfold State.wake; split <;> simp_all
@[simp] theorem State.wake_cpuAlive (s : State) : s.wake.cpuAlive = s.cpuAlive := by
  unfold State.wake; split <;> rfl
@[simp] theorem State.wake_bus (s : State) : s.wake.bus = s.bus := by
  unfold State.wake; split <;> rfl
@[simp] theorem State.wake_quantum (s : State) : s.wake.quantum = s.quantum := by
  unfold State.wake; split <;> rfl
@[simp] theorem State.wake_consumed (s : State) : s.wake.consumed = s.consumed := by
  unfold State.wake; split <;> rfl
@[simp] theorem State.wake_carry (s : State) : s.wake.carry = s.carry := by
  unfold State.wake; split <;> rfl
@[simp] theorem State.wake_cpuCycles (s : State) : s.wake.cpuCycles = s.cpuCycles := by
  unfold State.wake; split <;> rfl
@[simp] theorem State.wake_deviceCycles (s : State) : s.wake.deviceCycles = s.deviceCycles := by
  unfold State.wake; split <;> rfl
@[simp] theorem State.wake_inputs (s : State) : s.wake.inputs = s.inputs := by
  unfold State.wake; split <;> rfl

@[simp] theorem State.applyEi_regs (s : State) : s.applyEi.regs = s.regs := by
  unfold State.applyEi; split <;> rfl
@[simp] theorem State.applyEi_ime (s : State) : s.applyEi.ime = (s.ime || s.eiPending) := by
  unfold State.applyEi; split <;> simp_all
@[simp] theorem State.applyEi_eiPending (s : State) : s.applyEi.eiPending = false := by
  unfold State.applyEi; split <;> simp_all
@[simp] theorem State.applyEi_halted (s : State) : s.applyEi.halted = s.halted := by
  unfold State.applyEi; split <;> rfl
@[simp] theorem State.applyEi_cpuAlive (s : State) : s.applyEi.cpuAlive = s.cpuAlive := by
  unfold State.applyEi; split <;> rfl
@[simp] theorem State.applyEi_bus (s : State) : s.applyEi.bus = s.bus := by
  unfold State.applyEi; split <;> rfl
@[simp] theorem State.applyEi_quantum (s : State) : s.applyEi.quantum = s.quantum := by
  unfold State.applyEi; split <;> rfl
@[simp] theorem State.applyEi_consumed (s : State) : s.applyEi.consumed = s.consumed := by
  unfold State.applyEi; split <;> rfl
@[simp] theorem State.applyEi_carry (s : State) : s.applyEi.carry = s.carry := by
  unfold State.applyEi; split <;> rfl
@[simp] theorem State.applyEi_cpuCycles (s : State) : s.applyEi.cpuCycles = s.cpuCycles := by
  unfold State.applyEi; split <;> rfl
@[simp] theorem State.applyEi_deviceCycles (s : State) : s.applyEi.deviceCycles = s.deviceCycles := by
  unfold State.applyEi; split <;> rfl
@[simp] theorem State.applyEi_inputs (s : State) : s.applyEi.inputs = s.inputs := by
  unfold State.applyEi; split <;> rfl

/-- Only the bus decides what is pending. -/
theorem State.pending_eq_of_bus {s t : State} (h : t.bus = s.bus) : t.pending = s.pending := by
  simp [State.pending, h]

/-- Only the bus decides which interrupt is next. -/
theorem State.nextInterrupt_eq_of_bus {s t : State} (h : t.bus = s.bus) : t.nextInterrupt = s.nextInterrupt := by
  simp [State.nextInterrupt, State.pending, h]

/-- Only the bus decides what a read gives. -/
theorem State.read_eq_of_bus {s t : State} (h : t.bus = s.bus) (a : Word) : t.read a = s.read a := by
  simp [State.read, h]

/-- The wake-up as one record: `halted` goes when something enabled is pending. -/
theorem State.wake_eq (s : State) : s.wake = { s with halted := s.halted && decide (s.pending = 0) } := by
  unfold State.wake; split <;> simp_all

/-- The delayed effect of EI as one record. -/
theorem State.applyEi_eq (s : State) : s.applyEi = { s with ime := s.ime || s.eiPending, eiPending := false } := by
  unfold State.applyEi; split
  · simp_all
  · cases s; simp_all

/-- Nothing pending, nothing to dispatch. -/
theorem State.nextInterrupt_none_of_pending_zero {s : State} (h : s.pending = 0) : s.nextInterrupt = none := by
  simp [State.nextInterrupt, h]

end Sys2Proof.Machine
end

