-- ==== Sys2Proof/Laws/Ops.lean ====
section
/-! SUPPORT. What each shared operation does, as one equation over State, and what a step of the CPU can be. -/

namespace Sys2Proof.Machine

/-- SP + 1 of the new SP of a push. -/
theorem sub_two_add_one (v : Word) : v - 2 + 1 = v - 1 := by bv_omega

/-- A pop's SP after a push's. -/
theorem sub_two_add_two (v : Word) : v - 2 + 2 = v := by bv_omega

/-- `MemWrite(a, 2, v)` as one update (R65). -/
theorem State.write16_eq (s : State) (a v : Word) :
    s.write16 a v = { s with bus := (s.bus.write a (loByte v)).write (a + 1) (hiByte v) } := rfl

/-- `push16(v)` as one update (R204). -/
theorem State.push16_eq (s : State) (v : Word) :
    s.push16 v =
      { s with
        regs := { s.regs with sp := s.regs.sp - 2 }
        bus  := (s.bus.write (s.regs.sp - 2) (loByte v)).write (s.regs.sp - 1) (hiByte v) } := by
  rw [← sub_two_add_one]; rfl

/-- The stores of a push are the bus update of `push16`. -/
theorem State.push16_writes (s : State) (v : Word) : (s.push16 v).bus = s.bus.writes (s.pushStores v) := rfl

/-- Taking an interrupt as one update (R334, R335). -/
theorem State.takeInterrupt_eq (s : State) (i : Interrupt) :
    s.takeInterrupt i =
      { s with
        ime       := false
        eiPending := false
        regs      := { s.regs with sp := s.regs.sp - 2, pc := i.vector }
        bus       :=
          (({ s.bus with ifl := s.bus.ifl &&& ~~~i.mask }).write (s.regs.sp - 2) (loByte s.regs.pc)).write
            (s.regs.sp - 1) (hiByte s.regs.pc)
        consumed  := s.consumed + 20
        cpuCycles := s.cpuCycles + 20 } := by
  rw [← sub_two_add_one]; rfl

/-- The fatal state as one update (R306, R320). -/
theorem State.raiseIllegalOpcode_eq (s : State) :
    s.raiseIllegalOpcode =
      { s with
        regs      := { s.regs with pc := s.regs.pc - 1 }
        cpuAlive  := false
        consumed  := s.consumed + 4
        cpuCycles := s.cpuCycles + 4 } := rfl

/-- A return's pop as one update (R205, R287). -/
theorem State.popPc_eq (s : State) :
    s.popPc =
      { s with
        regs := { s.regs with
          sp := s.regs.sp + 2
          pc := joinBytes (s.read (s.regs.sp + 1)) (s.read s.regs.sp) } } := rfl

/-- A step of the CPU is one of three things (R333): it takes an interrupt, idles in standby, or runs the fetched instruction. -/
theorem State.cpuStep_cases (s : State) :
    (∃ i, s.wake.dispatched = some i ∧ s.cpuStep = .next (s.wake.takeInterrupt i)) ∨
    (s.wake.dispatched = none ∧ s.wake.halted = true ∧ s.cpuStep = .next (s.wake.tick 4)) ∨
    (s.wake.dispatched = none ∧ s.wake.halted = false ∧ s.cpuStep = s.wake.applyEi.runInstr) := by
  unfold State.cpuStep
  cases hd : s.wake.dispatched with
  | some i => exact .inl ⟨i, rfl, rfl⟩
  | none =>
    cases hh : s.wake.halted with
    | true  => exact .inr (.inl ⟨rfl, rfl, by simp⟩)
    | false => exact .inr (.inr ⟨rfl, rfl, by simp⟩)

/-- A step of the model is one of three things (R391, R392): nothing, a step of the CPU followed by the end of the quantum where its
loop is over, or the end of a quantum whose budget the carry used up. -/
theorem State.machineStep_cases (s : State) :
    (s.cpuAlive = false ∧ s.machineStep = .next s) ∨
    (s.cpuAlive = true ∧ s.inQuantum = true ∧
      s.machineStep = (match s.cpuStep with | .next t => .next t.settle | .fault r => .fault r | .refused r => .refused r)) ∨
    (s.cpuAlive = true ∧ s.inQuantum = false ∧ s.machineStep = .next s.endQuantum) := by
  unfold State.machineStep
  cases ha : s.cpuAlive with
  | false => exact .inl ⟨rfl, by simp⟩
  | true =>
    cases hq : s.inQuantum with
    | true  => exact .inr (.inl ⟨rfl, rfl, (if_neg Bool.noConfusion).trans (if_pos rfl)⟩)
    | false => exact .inr (.inr ⟨rfl, rfl, by simp⟩)

/-- Clearing a request bit keeps the bus legal. -/
theorem Bus.Ok.withIfl {b : Bus} (h : b.Ok) (i : BitVec 5) : ({ b with ifl := i } : Bus).Ok :=
  { h with }

/-- Taking the next host input keeps the bus legal. -/
theorem Bus.Ok.withInput {b : Bus} (h : b.Ok) (i : Buttons) : ({ b with input := i } : Bus).Ok :=
  { h with }

/-- The end of a quantum keeps the bus legal. -/
theorem Bus.Ok.endQuantum {s : State} (h : s.bus.Ok) : s.endQuantum.bus.Ok :=
  ((h.ppuStep s.consumed).ioStep s.consumed).withInput s.nextInput

/-- Taking an interrupt keeps the bus legal. -/
theorem Bus.Ok.takeInterrupt {s : State} (h : s.bus.Ok) (i : Interrupt) : (s.takeInterrupt i).bus.Ok := by
  rw [State.takeInterrupt_eq]
  exact ((h.withIfl _).write _ _).write _ _

end Sys2Proof.Machine
end

