-- ==== Sys2Proof/Laws/Renderer.lean ====
section
/-! SUPPORT. The renderer's pixels: bit planes and palettes as integers, which sprites a scanline has, and which one wins. -/

namespace Sys2Proof.Machine

/-! ## Colour indices and shades as integers -/

/-- A colour index is its high-plane bit above its low-plane bit (R379, R380). -/
theorem planePixel_toNat (hi lo : Byte) (i : Nat) :
    (planePixel hi lo i).toNat = 2 * bitNat (hi.getLsbD i) + bitNat (lo.getLsbD i) := by
  unfold planePixel bitOf
  cases hi.getLsbD i <;> cases lo.getLsbD i <;> rfl

/-- A palette's shade is its base-4 digit (R43). -/
theorem paletteShade_toNat (palette : Byte) (i : BitVec 2) :
    (paletteShade palette i).toNat = palette.toNat / 4 ^ i.toNat % 4 := by
  unfold paletteShade
  rw [BitVec.extractLsb'_toNat, Nat.shiftRight_eq_div_pow, Nat.pow_mul]

/-! ## The sprites of a scanline -/

/-- The sprites of a scanline stand in OAM order (R380). -/
theorem Bus.spritesOn_sorted (b : Bus) (y : Nat) : (b.spritesOn y).Pairwise (· < ·) :=
  (List.pairwise_lt_range.filter _).sublist (List.take_sublist _ _)

/-- The first `k` numbers below `n` that pass a test: those with fewer than `k` passing numbers before them. -/
theorem mem_take_filter_range (p : Nat → Bool) (k i : Nat) : ∀ n : Nat,
    i ∈ ((List.range n).filter p).take k ↔ i < n ∧ p i = true ∧ ((List.range i).filter p).length < k
  | 0 => by simp
  | n + 1 => by
    rw [List.range_succ, List.filter_append, List.take_append, List.mem_append, mem_take_filter_range p k i n]
    constructor
    · rintro (⟨h1, h2, h3⟩ | h)
      · exact ⟨by omega, h2, h3⟩
      · have hmem := List.mem_of_mem_take h
        rw [List.mem_filter, List.mem_singleton] at hmem
        obtain ⟨rfl, h2⟩ := hmem
        refine ⟨by omega, h2, Nat.lt_of_not_le fun hle => ?_⟩
        rw [Nat.sub_eq_zero_of_le hle] at h
        simp at h
    · rintro ⟨h1, h2, h3⟩
      by_cases hn : i < n
      · exact .inl ⟨hn, h2, h3⟩
      · obtain rfl : i = n := by omega
        obtain ⟨m, hm⟩ := Nat.exists_eq_succ_of_ne_zero (Nat.sub_ne_zero_of_lt h3)
        right
        rw [show [i].filter p = [i] by simp [h2], hm]
        simp

/-! ## The winning sprite -/

/-- A pixel no later one has a smaller X than is kept. -/
theorem betterSprite_foldl_keep (f : Nat → Option SpritePixel) {p : SpritePixel} : ∀ l : List Nat,
    (∀ j q, j ∈ l → f j = some q → p.sx ≤ q.sx) →
    l.foldl (fun best i => betterSprite best (f i)) (some p) = some p
  | [], _ => rfl
  | j :: l, h => by
    have keep : betterSprite (some p) (f j) = some p := by
      unfold betterSprite
      cases hj : f j with
      | none => rfl
      | some q => exact if_neg (Nat.not_lt.2 (h j q List.mem_cons_self hj))
    rw [List.foldl_cons, keep]
    exact betterSprite_foldl_keep f l fun k q hk => h k q (List.mem_cons_of_mem _ hk)

/-- What is better of two pixels is one of them. -/
theorem betterSprite_cases {a b : Option SpritePixel} {q : SpritePixel} (h : betterSprite a b = some q) :
    a = some q ∨ b = some q := by
  unfold betterSprite at h
  split at h
  · exact .inr h
  · exact .inl h
  · split_ifs at h
    · exact .inr h
    · exact .inl h

/-- The pixel with the smallest X, the earliest on a tie, is the one the search ends with (R380). -/
theorem betterSprite_foldl_best (f : Nat → Option SpritePixel) {i : Nat} {p : SpritePixel} (hf : f i = some p) :
    ∀ (l : List Nat) (best : Option SpritePixel), l.Pairwise (· < ·) → i ∈ l →
    (∀ j q, j ∈ l → f j = some q → p.sx < q.sx ∨ (p.sx = q.sx ∧ i ≤ j)) → (∀ q, best = some q → p.sx < q.sx) →
    l.foldl (fun best i => betterSprite best (f i)) best = some p
  | [], _, _, hi, _, _ => absurd hi List.not_mem_nil
  | j :: l, best, hs, hi, hmin, hbest => by
    obtain ⟨hlt, hs⟩ := List.pairwise_cons.1 hs
    rw [List.foldl_cons]
    rcases List.mem_cons.1 hi with rfl | hi
    · have win : betterSprite best (f i) = some p := by
        rw [hf]
        cases best with
        | none => rfl
        | some q => exact if_pos (hbest q rfl)
      rw [win]
      refine betterSprite_foldl_keep f l fun k q hk hq => ?_
      have := hmin k q (List.mem_cons_of_mem _ hk) hq
      omega
    · refine betterSprite_foldl_best f hf l _ hs hi (fun k q hk => hmin k q (List.mem_cons_of_mem _ hk)) fun q hq => ?_
      rcases betterSprite_cases hq with h | h
      · exact hbest q h
      · have := hmin j q List.mem_cons_self h
        have := hlt i hi
        omega

/-- With no opaque pixel the search ends with none. -/
theorem betterSprite_foldl_none (f : Nat → Option SpritePixel) : ∀ l : List Nat, (∀ i, i ∈ l → f i = none) →
    l.foldl (fun best i => betterSprite best (f i)) none = none
  | [], _ => rfl
  | j :: l, h => by
    rw [List.foldl_cons, h j List.mem_cons_self]
    exact betterSprite_foldl_none f l fun i hi => h i (List.mem_cons_of_mem _ hi)

end Sys2Proof.Machine
end

