-- ==== Sys2Proof/Laws/Reset.lean ====
section
/-! SUPPORT. What `reset` can answer, said once, and what the byte strings of a configuration read as. -/

namespace Sys2Proof.Machine

/-- Everything a successful `reset` says of its configuration, and the machine it gives (R420, R421). -/
theorem reset_ok_iff {cfg : Cfg} {s : State} :
    reset cfg = .ok s ↔
      cfg.romOk = true ∧ cfg.bootOk = true ∧
      ∃ k nr na, cartKind (cfg.rom.byte 0x147) = some k ∧ k.variant ∈ cfg.supportedMbc ∧
        romBankCount (cfg.rom.byte 0x148) = some nr ∧ loadRamBanks k (cfg.rom.byte 0x149) = some na ∧
        s = powerOn cfg (buildCart cfg k nr na) := by
  unfold reset loadCart
  cases cfg.romOk <;> cases cfg.bootOk <;> try simp
  cases cartKind (cfg.rom.byte 0x147) with
  | none => simp
  | some k =>
    by_cases hv : k.variant ∈ cfg.supportedMbc
    · cases romBankCount (cfg.rom.byte 0x148) with
      | none => simp [hv]
      | some nr =>
        cases hl : loadRamBanks k (cfg.rom.byte 0x149) with
        | none => simp [hv, hl]
        | some na => simp [hv, hl, @eq_comm _ s]
    · simp [hv]

/-- Reading below the cut a byte string was cut at. -/
theorem cellGet_filter_lt {w n k : Nat} (h : k < n) :
    ∀ m : Store w, cellGet (m.filter fun kv => decide (kv.1 < n)) k = cellGet m k
  | [] => rfl
  | (k', v) :: m => by
    have ih := cellGet_filter_lt h m
    by_cases hk : k' < n
    · rw [List.filter_cons_of_pos (by simpa using hk)]
      unfold cellGet
      rw [ih]
    · have hne : k ≠ k' := by omega
      rw [List.filter_cons_of_neg (by simpa using hk), ih]
      exact (if_neg hne).symm

/-- The first `n` bytes of a byte string read as the byte string does. -/
theorem Image.cellGet_upTo {i : Image} {n k : Nat} (h : k < n) : cellGet (i.upTo n) k = i.byte k :=
  cellGet_filter_lt h i.cells

/-- A ROM-size code that loads (R101). -/
theorem romBankCount_eq_some {code : Byte} {n : Nat} : romBankCount code = some n ↔ code.toNat ≤ 8 ∧ n = 2 * 2 ^ code.toNat := by
  unfold romBankCount
  split_ifs with h <;> simp [h, Nat.shiftLeft_eq, eq_comm]

/-- A RAM-size code that loads for a cartridge type (R102, R103). -/
theorem loadRamBanks_eq_some {k : CartKind} {code : Byte} {n : Nat} :
    loadRamBanks k code = some n ↔
      ∃ m, ramBankCount code = some m ∧ (k.ram = false ∨ m ≤ k.variant.ramLimit) ∧ n = if k.ram = true then m else 0 := by
  unfold loadRamBanks
  cases ramBankCount code with
  | none => simp
  | some m =>
    cases hr : k.ram
    · simp [eq_comm]
    · by_cases hm : m ≤ k.variant.ramLimit <;> simp [hm, eq_comm]

end Sys2Proof.Machine
end

