-- ==== Sys2Proof/Tests/Slice0.lean ====
section
/-! SUPPORT. The model's own tests: the checks of WellFormed and of reset with an ill-formed term each, every constructor's decoding
from the bit patterns of opcode_table.json, derived vectors of 95_test_vectors.md (each theorem is named after its vector), and a
witness for the hypotheses of every obligation that has some. -/

namespace Sys2Proof.Machine

/-- The test start state of 95_test_vectors.md section 3, with `code` at `pc`. -/
def testAt (pc : Word) (code : List Byte) : State :=
  { State.reset with
    regs := ⟨0, 0, 0, 0, 0, 0, 0, 0, 0xFFFE, pc⟩
    bus  := { Bus.reset with
      ifl   := 0
      timer := ⟨0, 0, 0, 0⟩
      ppu   := { Ppu.reset with lcdc := 0, mode := .hblank, coincidence := false } }.pokeBytes pc code }

/-- Bytes laid down in the storage at `a`. -/
def State.put (s : State) (a : Word) (bytes : List Byte) : State := { s with bus := s.bus.pokeBytes a bytes }

/-- A state with IME set or clear. -/
def State.withIme (s : State) (v : Bool) : State := { s with ime := v }

/-- A state with given interrupt requests. -/
def State.withIf (s : State) (v : BitVec 5) : State := { s with bus := { s.bus with ifl := v } }

/-- The result is a next state that passes every check. -/
def passes (r : Result) (p : State → List Bool) : Bool :=
  match r with
  | .next t    => (p t).all id
  | .fault _   => false
  | .refused _ => false

/-- Each byte string decodes to its instruction with nothing left over, and is what the encoder writes for it. -/
def spells (l : List (List Byte × Instr)) : Bool :=
  l.all fun p => decide (decode p.1 = .ok (p.2, [])) && decide (encode p.2 = p.1)

set_option maxRecDepth 4000

/-! ## What WellFormed and reset refuse -/

/-- A quantum of 0 is refused (R7, R390). -/
theorem test_quantum_zero : Cfg.wf { Cfg.default with quantum := 0 } = false := by decide

/-- A quantum that is no multiple of 4 is refused (R7, R390). -/
theorem test_quantum_odd : Cfg.wf { Cfg.default with quantum := 6 } = false := by decide

/-- A boot ROM of another length is refused (R421). -/
theorem test_boot_length : Cfg.wf { Cfg.default with bootRom := ⟨255, []⟩ } = false := by decide

/-- A ROM shorter than its header is refused (R421). -/
theorem test_rom_length : Cfg.wf { Cfg.default with rom := ⟨0x14F, []⟩ } = false := by decide

/-- A byte string with a byte beyond its end is refused. -/
theorem test_image_bound : Image.wf ⟨4, [(4, 0x01)]⟩ = false := by decide

/-- A byte string out of order is refused. -/
theorem test_image_order : Image.wf ⟨4, [(2, 0x01), (1, 0x01)]⟩ = false := by decide

/-- A byte string that lists a 0x00 is refused. -/
theorem test_image_zero : Image.wf ⟨4, [(2, 0x00)]⟩ = false := by decide

/-- The default configuration is well formed. -/
theorem test_default_cfg : Cfg.default.wf = true := by decide

/-- A ROM of the default length with a given cartridge type, ROM-size code and RAM-size code. -/
def testCfg (cartType romCode ramCode : Byte) : Cfg :=
  { Cfg.default with
    rom := ⟨32768, ([(0x147, cartType), (0x148, romCode), (0x149, ramCode)] : List Host.Cell).filter fun kv => kv.2 ≠ 0⟩ }

/-- A load that fails, with its reason. -/
def failsWith (c : Cfg) (e : LoadError) : Bool :=
  match reset c with
  | .ok _     => false
  | .error e' => decide (e' = e)

/-- A load that gives a machine passing every check. -/
def loads (c : Cfg) (p : State → List Bool) : Bool :=
  match reset c with
  | .ok s    => (p s).all id
  | .error _ => false

/-- A cartridge type without a row of R103. -/
theorem test_load_type : failsWith (testCfg 0x05 0 0) (.unsupportedCartridge 0x05) = true := by decide

/-- A variant outside CFG.SUPPORTED_MBC. -/
theorem test_load_variant :
    failsWith { testCfg 0x19 0 0 with supportedMbc := [.noMbc] } (.unsupportedCartridge 0x19) = true := by decide

/-- A ROM-size code above 8. -/
theorem test_load_rom_size : failsWith (testCfg 0x00 9 0) (.badRomSize 9) = true := by decide

/-- A RAM-size code above 5. -/
theorem test_load_ram_size : failsWith (testCfg 0x13 0 6) (.badRamSize 6) = true := by decide

/-- More RAM banks than MBC1 addresses. -/
theorem test_load_ram_banks : failsWith (testCfg 0x03 0 5) (.badRamSize 5) = true := by decide

/-- A ROM without a whole header. -/
theorem test_load_short : failsWith { Cfg.default with rom := ⟨0x14F, []⟩ } .romTooShort = true := by decide

/-- A boot ROM of a wrong length. -/
theorem test_load_boot : failsWith { Cfg.default with bootRom := ⟨255, []⟩ } .badBootRom = true := by decide

/-- With a boot ROM everything starts at 0 (R52, left column). -/
theorem test_load_cold :
    loads { Cfg.default with bootRom := ⟨256, [(0, 0x31)]⟩ } (fun s =>
      [s.regs.pc == 0, s.regs.sp == 0, s.bus.ppu.lcdc == 0, s.read 0x0000 == 0x31, s.read 0xFF50 == 0xFE]) = true := by
  decide

/-! ## Decoding, from the bit patterns of opcode_table.json -/

theorem test_decode_base_0x :
    spells
      [([0b00000000], .nop), ([0b00000001, 0x34, 0x12], .ldBC_nn 0x1234), ([0b00000010], .ldMBC_A), ([0b00000011], .incBC),
       ([0b00000100], .incB), ([0b00000101], .decB), ([0b00000110, 0x9E], .ldB_n 0x9E), ([0b00000111], .rlca),
       ([0b00001000, 0x34, 0x12], .ldMnn_SP 0x1234), ([0b00001001], .addHL_BC), ([0b00001010], .ldA_MBC),
       ([0b00001011], .decBC), ([0b00001100], .incC), ([0b00001101], .decC), ([0b00001110, 0x9E], .ldC_n 0x9E),
       ([0b00001111], .rrca)] = true := by decide

theorem test_decode_base_1x :
    spells
      [([0b00010000, 0x9E], .stop 0x9E), ([0b00010001, 0x34, 0x12], .ldDE_nn 0x1234), ([0b00010010], .ldMDE_A),
       ([0b00010011], .incDE), ([0b00010100], .incD), ([0b00010101], .decD), ([0b00010110, 0x9E], .ldD_n 0x9E),
       ([0b00010111], .rla), ([0b00011000, 0x9E], .jr_e 0x9E), ([0b00011001], .addHL_DE), ([0b00011010], .ldA_MDE),
       ([0b00011011], .decDE), ([0b00011100], .incE), ([0b00011101], .decE), ([0b00011110, 0x9E], .ldE_n 0x9E),
       ([0b00011111], .rra)] = true := by decide

theorem test_decode_base_2x :
    spells
      [([0b00100000, 0x9E], .jrNZ_e 0x9E), ([0b00100001, 0x34, 0x12], .ldHL_nn 0x1234), ([0b00100010], .ldMHLinc_A),
       ([0b00100011], .incHL), ([0b00100100], .incH), ([0b00100101], .decH), ([0b00100110, 0x9E], .ldH_n 0x9E),
       ([0b00100111], .daa), ([0b00101000, 0x9E], .jrZ_e 0x9E), ([0b00101001], .addHL_HL), ([0b00101010], .ldA_MHLinc),
       ([0b00101011], .decHL), ([0b00101100], .incL), ([0b00101101], .decL), ([0b00101110, 0x9E], .ldL_n 0x9E),
       ([0b00101111], .cpl)] = true := by decide

theorem test_decode_base_3x :
    spells
      [([0b00110000, 0x9E], .jrNC_e 0x9E), ([0b00110001, 0x34, 0x12], .ldSP_nn 0x1234), ([0b00110010], .ldMHLdec_A),
       ([0b00110011], .incSP), ([0b00110100], .incMHL), ([0b00110101], .decMHL), ([0b00110110, 0x9E], .ldMHL_n 0x9E),
       ([0b00110111], .scf), ([0b00111000, 0x9E], .jrC_e 0x9E), ([0b00111001], .addHL_SP), ([0b00111010], .ldA_MHLdec),
       ([0b00111011], .decSP), ([0b00111100], .incA), ([0b00111101], .decA), ([0b00111110, 0x9E], .ldA_n 0x9E),
       ([0b00111111], .ccf)] = true := by decide

theorem test_decode_base_4x :
    spells
      [([0b01000000], .ldB_B), ([0b01000001], .ldB_C), ([0b01000010], .ldB_D), ([0b01000011], .ldB_E), ([0b01000100], .ldB_H),
       ([0b01000101], .ldB_L), ([0b01000110], .ldB_MHL), ([0b01000111], .ldB_A), ([0b01001000], .ldC_B),
       ([0b01001001], .ldC_C), ([0b01001010], .ldC_D), ([0b01001011], .ldC_E), ([0b01001100], .ldC_H), ([0b01001101], .ldC_L),
       ([0b01001110], .ldC_MHL), ([0b01001111], .ldC_A)] = true := by decide

theorem test_decode_base_5x :
    spells
      [([0b01010000], .ldD_B), ([0b01010001], .ldD_C), ([0b01010010], .ldD_D), ([0b01010011], .ldD_E), ([0b01010100], .ldD_H),
       ([0b01010101], .ldD_L), ([0b01010110], .ldD_MHL), ([0b01010111], .ldD_A), ([0b01011000], .ldE_B),
       ([0b01011001], .ldE_C), ([0b01011010], .ldE_D), ([0b01011011], .ldE_E), ([0b01011100], .ldE_H), ([0b01011101], .ldE_L),
       ([0b01011110], .ldE_MHL), ([0b01011111], .ldE_A)] = true := by decide

theorem test_decode_base_6x :
    spells
      [([0b01100000], .ldH_B), ([0b01100001], .ldH_C), ([0b01100010], .ldH_D), ([0b01100011], .ldH_E), ([0b01100100], .ldH_H),
       ([0b01100101], .ldH_L), ([0b01100110], .ldH_MHL), ([0b01100111], .ldH_A), ([0b01101000], .ldL_B),
       ([0b01101001], .ldL_C), ([0b01101010], .ldL_D), ([0b01101011], .ldL_E), ([0b01101100], .ldL_H), ([0b01101101], .ldL_L),
       ([0b01101110], .ldL_MHL), ([0b01101111], .ldL_A)] = true := by decide

theorem test_decode_base_7x :
    spells
      [([0b01110000], .ldMHL_B), ([0b01110001], .ldMHL_C), ([0b01110010], .ldMHL_D), ([0b01110011], .ldMHL_E),
       ([0b01110100], .ldMHL_H), ([0b01110101], .ldMHL_L), ([0b01110110], .halt), ([0b01110111], .ldMHL_A),
       ([0b01111000], .ldA_B), ([0b01111001], .ldA_C), ([0b01111010], .ldA_D), ([0b01111011], .ldA_E), ([0b01111100], .ldA_H),
       ([0b01111101], .ldA_L), ([0b01111110], .ldA_MHL), ([0b01111111], .ldA_A)] = true := by decide

theorem test_decode_base_8x :
    spells
      [([0b10000000], .addA_B), ([0b10000001], .addA_C), ([0b10000010], .addA_D), ([0b10000011], .addA_E),
       ([0b10000100], .addA_H), ([0b10000101], .addA_L), ([0b10000110], .addA_MHL), ([0b10000111], .addA_A),
       ([0b10001000], .adcA_B), ([0b10001001], .adcA_C), ([0b10001010], .adcA_D), ([0b10001011], .adcA_E),
       ([0b10001100], .adcA_H), ([0b10001101], .adcA_L), ([0b10001110], .adcA_MHL), ([0b10001111], .adcA_A)] = true := by decide

theorem test_decode_base_9x :
    spells
      [([0b10010000], .subA_B), ([0b10010001], .subA_C), ([0b10010010], .subA_D), ([0b10010011], .subA_E),
       ([0b10010100], .subA_H), ([0b10010101], .subA_L), ([0b10010110], .subA_MHL), ([0b10010111], .subA_A),
       ([0b10011000], .sbcA_B), ([0b10011001], .sbcA_C), ([0b10011010], .sbcA_D), ([0b10011011], .sbcA_E),
       ([0b10011100], .sbcA_H), ([0b10011101], .sbcA_L), ([0b10011110], .sbcA_MHL), ([0b10011111], .sbcA_A)] = true := by decide

theorem test_decode_base_Ax :
    spells
      [([0b10100000], .andA_B), ([0b10100001], .andA_C), ([0b10100010], .andA_D), ([0b10100011], .andA_E),
       ([0b10100100], .andA_H), ([0b10100101], .andA_L), ([0b10100110], .andA_MHL), ([0b10100111], .andA_A),
       ([0b10101000], .xorA_B), ([0b10101001], .xorA_C), ([0b10101010], .xorA_D), ([0b10101011], .xorA_E),
       ([0b10101100], .xorA_H), ([0b10101101], .xorA_L), ([0b10101110], .xorA_MHL), ([0b10101111], .xorA_A)] = true := by decide

theorem test_decode_base_Bx :
    spells
      [([0b10110000], .orA_B), ([0b10110001], .orA_C), ([0b10110010], .orA_D), ([0b10110011], .orA_E), ([0b10110100], .orA_H),
       ([0b10110101], .orA_L), ([0b10110110], .orA_MHL), ([0b10110111], .orA_A), ([0b10111000], .cpA_B),
       ([0b10111001], .cpA_C), ([0b10111010], .cpA_D), ([0b10111011], .cpA_E), ([0b10111100], .cpA_H), ([0b10111101], .cpA_L),
       ([0b10111110], .cpA_MHL), ([0b10111111], .cpA_A)] = true := by decide

theorem test_decode_base_Cx :
    spells
      [([0b11000000], .retNZ), ([0b11000001], .popBC), ([0b11000010, 0x34, 0x12], .jpNZ_nn 0x1234),
       ([0b11000011, 0x34, 0x12], .jp_nn 0x1234), ([0b11000100, 0x34, 0x12], .callNZ_nn 0x1234), ([0b11000101], .pushBC),
       ([0b11000110, 0x9E], .addA_n 0x9E), ([0b11000111], .rst00), ([0b11001000], .retZ), ([0b11001001], .ret),
       ([0b11001010, 0x34, 0x12], .jpZ_nn 0x1234), ([0b11001100, 0x34, 0x12], .callZ_nn 0x1234),
       ([0b11001101, 0x34, 0x12], .call_nn 0x1234), ([0b11001110, 0x9E], .adcA_n 0x9E), ([0b11001111], .rst08)] = true := by decide

theorem test_decode_base_Dx :
    spells
      [([0b11010000], .retNC), ([0b11010001], .popDE), ([0b11010010, 0x34, 0x12], .jpNC_nn 0x1234), ([0b11010011], .illegalD3),
       ([0b11010100, 0x34, 0x12], .callNC_nn 0x1234), ([0b11010101], .pushDE), ([0b11010110, 0x9E], .subA_n 0x9E),
       ([0b11010111], .rst10), ([0b11011000], .retC), ([0b11011001], .reti), ([0b11011010, 0x34, 0x12], .jpC_nn 0x1234),
       ([0b11011011], .illegalDB), ([0b11011100, 0x34, 0x12], .callC_nn 0x1234), ([0b11011101], .illegalDD),
       ([0b11011110, 0x9E], .sbcA_n 0x9E), ([0b11011111], .rst18)] = true := by decide

theorem test_decode_base_Ex :
    spells
      [([0b11100000, 0x9E], .ldhMn_A 0x9E), ([0b11100001], .popHL), ([0b11100010], .ldMC_A), ([0b11100011], .illegalE3),
       ([0b11100100], .illegalE4), ([0b11100101], .pushHL), ([0b11100110, 0x9E], .andA_n 0x9E), ([0b11100111], .rst20),
       ([0b11101000, 0x9E], .addSP_e 0x9E), ([0b11101001], .jpHL), ([0b11101010, 0x34, 0x12], .ldMnn_A 0x1234),
       ([0b11101011], .illegalEB), ([0b11101100], .illegalEC), ([0b11101101], .illegalED), ([0b11101110, 0x9E], .xorA_n 0x9E),
       ([0b11101111], .rst28)] = true := by decide

theorem test_decode_base_Fx :
    spells
      [([0b11110000, 0x9E], .ldhA_Mn 0x9E), ([0b11110001], .popAF), ([0b11110010], .ldA_MC), ([0b11110011], .di),
       ([0b11110100], .illegalF4), ([0b11110101], .pushAF), ([0b11110110, 0x9E], .orA_n 0x9E), ([0b11110111], .rst30),
       ([0b11111000, 0x9E], .ldHL_SPe 0x9E), ([0b11111001], .ldSP_HL), ([0b11111010, 0x34, 0x12], .ldA_Mnn 0x1234),
       ([0b11111011], .ei), ([0b11111100], .illegalFC), ([0b11111101], .illegalFD), ([0b11111110, 0x9E], .cpA_n 0x9E),
       ([0b11111111], .rst38)] = true := by decide

theorem test_decode_cb_0x :
    spells
      [([0b11001011, 0b00000000], .rlcB), ([0b11001011, 0b00000001], .rlcC), ([0b11001011, 0b00000010], .rlcD),
       ([0b11001011, 0b00000011], .rlcE), ([0b11001011, 0b00000100], .rlcH), ([0b11001011, 0b00000101], .rlcL),
       ([0b11001011, 0b00000110], .rlcMHL), ([0b11001011, 0b00000111], .rlcA), ([0b11001011, 0b00001000], .rrcB),
       ([0b11001011, 0b00001001], .rrcC), ([0b11001011, 0b00001010], .rrcD), ([0b11001011, 0b00001011], .rrcE),
       ([0b11001011, 0b00001100], .rrcH), ([0b11001011, 0b00001101], .rrcL), ([0b11001011, 0b00001110], .rrcMHL),
       ([0b11001011, 0b00001111], .rrcA)] = true := by decide

theorem test_decode_cb_1x :
    spells
      [([0b11001011, 0b00010000], .rl_B), ([0b11001011, 0b00010001], .rl_C), ([0b11001011, 0b00010010], .rl_D),
       ([0b11001011, 0b00010011], .rl_E), ([0b11001011, 0b00010100], .rl_H), ([0b11001011, 0b00010101], .rl_L),
       ([0b11001011, 0b00010110], .rl_MHL), ([0b11001011, 0b00010111], .rl_A), ([0b11001011, 0b00011000], .rr_B),
       ([0b11001011, 0b00011001], .rr_C), ([0b11001011, 0b00011010], .rr_D), ([0b11001011, 0b00011011], .rr_E),
       ([0b11001011, 0b00011100], .rr_H), ([0b11001011, 0b00011101], .rr_L), ([0b11001011, 0b00011110], .rr_MHL),
       ([0b11001011, 0b00011111], .rr_A)] = true := by decide

theorem test_decode_cb_2x :
    spells
      [([0b11001011, 0b00100000], .slaB), ([0b11001011, 0b00100001], .slaC), ([0b11001011, 0b00100010], .slaD),
       ([0b11001011, 0b00100011], .slaE), ([0b11001011, 0b00100100], .slaH), ([0b11001011, 0b00100101], .slaL),
       ([0b11001011, 0b00100110], .slaMHL), ([0b11001011, 0b00100111], .slaA), ([0b11001011, 0b00101000], .sraB),
       ([0b11001011, 0b00101001], .sraC), ([0b11001011, 0b00101010], .sraD), ([0b11001011, 0b00101011], .sraE),
       ([0b11001011, 0b00101100], .sraH), ([0b11001011, 0b00101101], .sraL), ([0b11001011, 0b00101110], .sraMHL),
       ([0b11001011, 0b00101111], .sraA)] = true := by decide

theorem test_decode_cb_3x :
    spells
      [([0b11001011, 0b00110000], .swapB), ([0b11001011, 0b00110001], .swapC), ([0b11001011, 0b00110010], .swapD),
       ([0b11001011, 0b00110011], .swapE), ([0b11001011, 0b00110100], .swapH), ([0b11001011, 0b00110101], .swapL),
       ([0b11001011, 0b00110110], .swapMHL), ([0b11001011, 0b00110111], .swapA), ([0b11001011, 0b00111000], .srlB),
       ([0b11001011, 0b00111001], .srlC), ([0b11001011, 0b00111010], .srlD), ([0b11001011, 0b00111011], .srlE),
       ([0b11001011, 0b00111100], .srlH), ([0b11001011, 0b00111101], .srlL), ([0b11001011, 0b00111110], .srlMHL),
       ([0b11001011, 0b00111111], .srlA)] = true := by decide

theorem test_decode_cb_4x :
    spells
      [([0b11001011, 0b01000000], .bit0_B), ([0b11001011, 0b01000001], .bit0_C), ([0b11001011, 0b01000010], .bit0_D),
       ([0b11001011, 0b01000011], .bit0_E), ([0b11001011, 0b01000100], .bit0_H), ([0b11001011, 0b01000101], .bit0_L),
       ([0b11001011, 0b01000110], .bit0_MHL), ([0b11001011, 0b01000111], .bit0_A), ([0b11001011, 0b01001000], .bit1_B),
       ([0b11001011, 0b01001001], .bit1_C), ([0b11001011, 0b01001010], .bit1_D), ([0b11001011, 0b01001011], .bit1_E),
       ([0b11001011, 0b01001100], .bit1_H), ([0b11001011, 0b01001101], .bit1_L), ([0b11001011, 0b01001110], .bit1_MHL),
       ([0b11001011, 0b01001111], .bit1_A)] = true := by decide

theorem test_decode_cb_5x :
    spells
      [([0b11001011, 0b01010000], .bit2_B), ([0b11001011, 0b01010001], .bit2_C), ([0b11001011, 0b01010010], .bit2_D),
       ([0b11001011, 0b01010011], .bit2_E), ([0b11001011, 0b01010100], .bit2_H), ([0b11001011, 0b01010101], .bit2_L),
       ([0b11001011, 0b01010110], .bit2_MHL), ([0b11001011, 0b01010111], .bit2_A), ([0b11001011, 0b01011000], .bit3_B),
       ([0b11001011, 0b01011001], .bit3_C), ([0b11001011, 0b01011010], .bit3_D), ([0b11001011, 0b01011011], .bit3_E),
       ([0b11001011, 0b01011100], .bit3_H), ([0b11001011, 0b01011101], .bit3_L), ([0b11001011, 0b01011110], .bit3_MHL),
       ([0b11001011, 0b01011111], .bit3_A)] = true := by decide

theorem test_decode_cb_6x :
    spells
      [([0b11001011, 0b01100000], .bit4_B), ([0b11001011, 0b01100001], .bit4_C), ([0b11001011, 0b01100010], .bit4_D),
       ([0b11001011, 0b01100011], .bit4_E), ([0b11001011, 0b01100100], .bit4_H), ([0b11001011, 0b01100101], .bit4_L),
       ([0b11001011, 0b01100110], .bit4_MHL), ([0b11001011, 0b01100111], .bit4_A), ([0b11001011, 0b01101000], .bit5_B),
       ([0b11001011, 0b01101001], .bit5_C), ([0b11001011, 0b01101010], .bit5_D), ([0b11001011, 0b01101011], .bit5_E),
       ([0b11001011, 0b01101100], .bit5_H), ([0b11001011, 0b01101101], .bit5_L), ([0b11001011, 0b01101110], .bit5_MHL),
       ([0b11001011, 0b01101111], .bit5_A)] = true := by decide

theorem test_decode_cb_7x :
    spells
      [([0b11001011, 0b01110000], .bit6_B), ([0b11001011, 0b01110001], .bit6_C), ([0b11001011, 0b01110010], .bit6_D),
       ([0b11001011, 0b01110011], .bit6_E), ([0b11001011, 0b01110100], .bit6_H), ([0b11001011, 0b01110101], .bit6_L),
       ([0b11001011, 0b01110110], .bit6_MHL), ([0b11001011, 0b01110111], .bit6_A), ([0b11001011, 0b01111000], .bit7_B),
       ([0b11001011, 0b01111001], .bit7_C), ([0b11001011, 0b01111010], .bit7_D), ([0b11001011, 0b01111011], .bit7_E),
       ([0b11001011, 0b01111100], .bit7_H), ([0b11001011, 0b01111101], .bit7_L), ([0b11001011, 0b01111110], .bit7_MHL),
       ([0b11001011, 0b01111111], .bit7_A)] = true := by decide

theorem test_decode_cb_8x :
    spells
      [([0b11001011, 0b10000000], .res0_B), ([0b11001011, 0b10000001], .res0_C), ([0b11001011, 0b10000010], .res0_D),
       ([0b11001011, 0b10000011], .res0_E), ([0b11001011, 0b10000100], .res0_H), ([0b11001011, 0b10000101], .res0_L),
       ([0b11001011, 0b10000110], .res0_MHL), ([0b11001011, 0b10000111], .res0_A), ([0b11001011, 0b10001000], .res1_B),
       ([0b11001011, 0b10001001], .res1_C), ([0b11001011, 0b10001010], .res1_D), ([0b11001011, 0b10001011], .res1_E),
       ([0b11001011, 0b10001100], .res1_H), ([0b11001011, 0b10001101], .res1_L), ([0b11001011, 0b10001110], .res1_MHL),
       ([0b11001011, 0b10001111], .res1_A)] = true := by decide

theorem test_decode_cb_9x :
    spells
      [([0b11001011, 0b10010000], .res2_B), ([0b11001011, 0b10010001], .res2_C), ([0b11001011, 0b10010010], .res2_D),
       ([0b11001011, 0b10010011], .res2_E), ([0b11001011, 0b10010100], .res2_H), ([0b11001011, 0b10010101], .res2_L),
       ([0b11001011, 0b10010110], .res2_MHL), ([0b11001011, 0b10010111], .res2_A), ([0b11001011, 0b10011000], .res3_B),
       ([0b11001011, 0b10011001], .res3_C), ([0b11001011, 0b10011010], .res3_D), ([0b11001011, 0b10011011], .res3_E),
       ([0b11001011, 0b10011100], .res3_H), ([0b11001011, 0b10011101], .res3_L), ([0b11001011, 0b10011110], .res3_MHL),
       ([0b11001011, 0b10011111], .res3_A)] = true := by decide

theorem test_decode_cb_Ax :
    spells
      [([0b11001011, 0b10100000], .res4_B), ([0b11001011, 0b10100001], .res4_C), ([0b11001011, 0b10100010], .res4_D),
       ([0b11001011, 0b10100011], .res4_E), ([0b11001011, 0b10100100], .res4_H), ([0b11001011, 0b10100101], .res4_L),
       ([0b11001011, 0b10100110], .res4_MHL), ([0b11001011, 0b10100111], .res4_A), ([0b11001011, 0b10101000], .res5_B),
       ([0b11001011, 0b10101001], .res5_C), ([0b11001011, 0b10101010], .res5_D), ([0b11001011, 0b10101011], .res5_E),
       ([0b11001011, 0b10101100], .res5_H), ([0b11001011, 0b10101101], .res5_L), ([0b11001011, 0b10101110], .res5_MHL),
       ([0b11001011, 0b10101111], .res5_A)] = true := by decide

theorem test_decode_cb_Bx :
    spells
      [([0b11001011, 0b10110000], .res6_B), ([0b11001011, 0b10110001], .res6_C), ([0b11001011, 0b10110010], .res6_D),
       ([0b11001011, 0b10110011], .res6_E), ([0b11001011, 0b10110100], .res6_H), ([0b11001011, 0b10110101], .res6_L),
       ([0b11001011, 0b10110110], .res6_MHL), ([0b11001011, 0b10110111], .res6_A), ([0b11001011, 0b10111000], .res7_B),
       ([0b11001011, 0b10111001], .res7_C), ([0b11001011, 0b10111010], .res7_D), ([0b11001011, 0b10111011], .res7_E),
       ([0b11001011, 0b10111100], .res7_H), ([0b11001011, 0b10111101], .res7_L), ([0b11001011, 0b10111110], .res7_MHL),
       ([0b11001011, 0b10111111], .res7_A)] = true := by decide

theorem test_decode_cb_Cx :
    spells
      [([0b11001011, 0b11000000], .set0_B), ([0b11001011, 0b11000001], .set0_C), ([0b11001011, 0b11000010], .set0_D),
       ([0b11001011, 0b11000011], .set0_E), ([0b11001011, 0b11000100], .set0_H), ([0b11001011, 0b11000101], .set0_L),
       ([0b11001011, 0b11000110], .set0_MHL), ([0b11001011, 0b11000111], .set0_A), ([0b11001011, 0b11001000], .set1_B),
       ([0b11001011, 0b11001001], .set1_C), ([0b11001011, 0b11001010], .set1_D), ([0b11001011, 0b11001011], .set1_E),
       ([0b11001011, 0b11001100], .set1_H), ([0b11001011, 0b11001101], .set1_L), ([0b11001011, 0b11001110], .set1_MHL),
       ([0b11001011, 0b11001111], .set1_A)] = true := by decide

theorem test_decode_cb_Dx :
    spells
      [([0b11001011, 0b11010000], .set2_B), ([0b11001011, 0b11010001], .set2_C), ([0b11001011, 0b11010010], .set2_D),
       ([0b11001011, 0b11010011], .set2_E), ([0b11001011, 0b11010100], .set2_H), ([0b11001011, 0b11010101], .set2_L),
       ([0b11001011, 0b11010110], .set2_MHL), ([0b11001011, 0b11010111], .set2_A), ([0b11001011, 0b11011000], .set3_B),
       ([0b11001011, 0b11011001], .set3_C), ([0b11001011, 0b11011010], .set3_D), ([0b11001011, 0b11011011], .set3_E),
       ([0b11001011, 0b11011100], .set3_H), ([0b11001011, 0b11011101], .set3_L), ([0b11001011, 0b11011110], .set3_MHL),
       ([0b11001011, 0b11011111], .set3_A)] = true := by decide

theorem test_decode_cb_Ex :
    spells
      [([0b11001011, 0b11100000], .set4_B), ([0b11001011, 0b11100001], .set4_C), ([0b11001011, 0b11100010], .set4_D),
       ([0b11001011, 0b11100011], .set4_E), ([0b11001011, 0b11100100], .set4_H), ([0b11001011, 0b11100101], .set4_L),
       ([0b11001011, 0b11100110], .set4_MHL), ([0b11001011, 0b11100111], .set4_A), ([0b11001011, 0b11101000], .set5_B),
       ([0b11001011, 0b11101001], .set5_C), ([0b11001011, 0b11101010], .set5_D), ([0b11001011, 0b11101011], .set5_E),
       ([0b11001011, 0b11101100], .set5_H), ([0b11001011, 0b11101101], .set5_L), ([0b11001011, 0b11101110], .set5_MHL),
       ([0b11001011, 0b11101111], .set5_A)] = true := by decide

theorem test_decode_cb_Fx :
    spells
      [([0b11001011, 0b11110000], .set6_B), ([0b11001011, 0b11110001], .set6_C), ([0b11001011, 0b11110010], .set6_D),
       ([0b11001011, 0b11110011], .set6_E), ([0b11001011, 0b11110100], .set6_H), ([0b11001011, 0b11110101], .set6_L),
       ([0b11001011, 0b11110110], .set6_MHL), ([0b11001011, 0b11110111], .set6_A), ([0b11001011, 0b11111000], .set7_B),
       ([0b11001011, 0b11111001], .set7_C), ([0b11001011, 0b11111010], .set7_D), ([0b11001011, 0b11111011], .set7_E),
       ([0b11001011, 0b11111100], .set7_H), ([0b11001011, 0b11111101], .set7_L), ([0b11001011, 0b11111110], .set7_MHL),
       ([0b11001011, 0b11111111], .set7_A)] = true := by decide

/-- The empty string and a string that ends inside an instruction are rejected by name (R140). -/
theorem test_decode_truncated :
    decode [] = .error .empty ∧ decode [0x3E] = .error (.truncated 0x3E) ∧
    decode [0xCD, 0x34] = .error (.truncated 0xCD) ∧ decode [0xCB] = .error (.truncated 0xCB) := by decide

/-- Words as opcode_table.json numbers them (R153: `match` of SWAP A is 0xCB37). -/
theorem test_decode_table_word :
    decodeTableWord 8 0x41 = some .ldB_C ∧ decodeTableWord 16 0xCB37 = some .swapA ∧
    decodeTableWord 8 0x3E = some (.ldA_n 0) ∧ decodeTableWord 24 0x1234CD = some (.call_nn 0x1234) ∧
    decodeTableWord 8 0xDD = some .illegalDD := by decide

/-- `withFetchWord` makes the next step after reset run the instruction. -/
theorem test_with_fetch_word :
    passes (step (State.reset.withFetchWord 16 0xCB37)) (fun r =>
      [r.reg .a == 0x10, r.regs.pc == 0x0102, r.cpuCycles == 8]) = true := by decide

/-- Another one, an instruction that ends the machine. -/
theorem test_with_fetch_illegal :
    passes (step (State.reset.withFetchWord 8 0xDD)) (fun r =>
      [r.cpuAlive == false, r.regs.pc == 0x0100, r.carry == 0]) = true := by decide

/-! ## Vectors of 95_test_vectors.md section 4, one step each -/

theorem test_T40_01 :
    passes (step (((testAt 0xC000 [0x41]).setReg .b 0x12).setReg .c 0x34)) (fun r =>
      [r.cpuCycles == 4, r.reg .b == 0x34, r.reg .c == 0x34, r.regs.pc == 0xC001]) = true := by decide

theorem test_T40_02 :
    passes (step (((testAt 0xC000 [0x40]).setReg .b 0x12).setF 0xF0)) (fun r =>
      [r.cpuCycles == 4, r.reg .b == 0x12, r.regs.f == 0xF0, r.regs.pc == 0xC001]) = true := by decide

theorem test_T40_03 :
    passes (step (testAt 0xC000 [0x3E, 0x7F])) (fun r =>
      [r.cpuCycles == 8, r.reg .a == 0x7F, r.regs.pc == 0xC002]) = true := by decide

theorem test_T40_04 :
    passes (step (((testAt 0xC000 [0x7E]).setReg16 .hl 0xC100).put 0xC100 [0x5A])) (fun r =>
      [r.cpuCycles == 8, r.reg16 .hl == 0xC100, r.reg .a == 0x5A, r.regs.pc == 0xC001]) = true := by decide

theorem test_T40_05 :
    passes (step (((testAt 0xC000 [0x66]).setReg16 .hl 0xC100).put 0xC100 [0x5A])) (fun r =>
      [r.cpuCycles == 8, r.reg16 .hl == 0x5A00, r.regs.pc == 0xC001]) = true := by decide

theorem test_T40_06 :
    passes (step (((testAt 0xC000 [0x70]).setReg16 .hl 0xC010).setReg .b 0x99)) (fun r =>
      [r.cpuCycles == 8, r.regs.pc == 0xC001, r.read 0xC010 == 0x99]) = true := by decide

theorem test_T40_07 :
    passes (step ((testAt 0xC000 [0x75]).setReg16 .hl 0xC010)) (fun r =>
      [r.cpuCycles == 8, r.regs.pc == 0xC001, r.read 0xC010 == 0x10]) = true := by decide

theorem test_T40_08 :
    passes (step ((testAt 0xC000 [0x36, 0xAB]).setReg16 .hl 0xC100)) (fun r =>
      [r.cpuCycles == 12, r.regs.pc == 0xC002, r.read 0xC100 == 0xAB]) = true := by decide

theorem test_T40_09 :
    passes (step (((testAt 0xC000 [0x0A]).setReg16 .bc 0xC200).put 0xC200 [0x11])) (fun r =>
      [r.cpuCycles == 8, r.reg .a == 0x11, r.regs.pc == 0xC001]) = true := by decide

theorem test_T40_10 :
    passes (step (((testAt 0xC000 [0x02]).setReg16 .bc 0xC201).setReg .a 0x42)) (fun r =>
      [r.cpuCycles == 8, r.regs.pc == 0xC001, r.read 0xC201 == 0x42]) = true := by decide

theorem test_T40_11 :
    passes (step (((testAt 0xC000 [0x12]).setReg16 .de 0x8000).setReg .a 0xFF)) (fun r =>
      [r.cpuCycles == 8, r.regs.pc == 0xC001, r.read 0x8000 == 0xFF]) = true := by decide

theorem test_T40_12 :
    passes (step ((testAt 0xC000 [0xFA, 0x23, 0xC1]).put 0xC123 [0x77])) (fun r =>
      [r.cpuCycles == 16, r.reg .a == 0x77, r.regs.pc == 0xC003]) = true := by decide

theorem test_T40_13 :
    passes (step ((testAt 0xC000 [0xEA, 0x23, 0xE1]).setReg .a 0x66)) (fun r =>
      [r.cpuCycles == 16, r.regs.pc == 0xC003, r.read 0xC123 == 0x66]) = true := by decide

theorem test_T40_14 :
    passes (step ((testAt 0xC000 [0xF0, 0x0F]).withIf 0b00101)) (fun r =>
      [r.cpuCycles == 12, r.reg .a == 0xE5, r.regs.pc == 0xC002]) = true := by decide

theorem test_T40_15 :
    passes (step ((testAt 0xC000 [0xE0, 0x80]).setReg .a 0x3C)) (fun r =>
      [r.cpuCycles == 12, r.regs.pc == 0xC002, r.read 0xFF80 == 0x3C]) = true := by decide

theorem test_T40_16 :
    passes (step (((testAt 0xC000 [0xF2]).setReg .c 0xFF).put 0xFFFF [0x15])) (fun r =>
      [r.cpuCycles == 8, r.reg .a == 0x15, r.regs.pc == 0xC001]) = true := by decide

theorem test_T40_17 :
    passes (step (((testAt 0xC000 [0xE2]).setReg .a 0x3C).setReg .c 0x80)) (fun r =>
      [r.cpuCycles == 8, r.regs.pc == 0xC001, r.read 0xFF80 == 0x3C]) = true := by decide

theorem test_T40_18 :
    passes (step (((testAt 0xC000 [0x22]).setReg16 .hl 0xC300).setReg .a 0x21)) (fun r =>
      [r.cpuCycles == 8, r.reg16 .hl == 0xC301, r.regs.pc == 0xC001, r.read 0xC300 == 0x21]) = true := by decide

theorem test_T40_19 :
    passes (step (((testAt 0xC000 [0x22]).setReg16 .hl 0xFFFF).setReg .a 0x1F)) (fun r =>
      [r.cpuCycles == 8, r.reg16 .hl == 0x0000, r.regs.pc == 0xC001, r.bus.ie == 0x1F]) = true := by decide

theorem test_T40_20 :
    passes (step (((testAt 0xC000 [0x2A]).setReg16 .hl 0xC300).put 0xC300 [0x54])) (fun r =>
      [r.cpuCycles == 8, r.reg16 .hl == 0xC301, r.reg .a == 0x54, r.regs.pc == 0xC001]) = true := by decide

theorem test_T40_21 :
    passes (step ((((testAt 0xC000 [0x32]).setReg16 .hl 0x9FFF).setReg .a 0x00).put 0x9FFF [0x55])) (fun r =>
      [r.cpuCycles == 8, r.reg16 .hl == 0x9FFE, r.regs.pc == 0xC001, r.read 0x9FFF == 0x00]) = true := by decide

theorem test_T40_22 :
    passes (step (((testAt 0xC000 [0x3A]).setReg16 .hl 0xC005).put 0xC005 [0x77])) (fun r =>
      [r.cpuCycles == 8, r.reg16 .hl == 0xC004, r.reg .a == 0x77, r.regs.pc == 0xC001]) = true := by decide

theorem test_T41_01 :
    passes (step ((testAt 0xC000 [0x31, 0xFE, 0xFF]).setSp 0x0000)) (fun r =>
      [r.cpuCycles == 12, r.regs.sp == 0xFFFE, r.regs.pc == 0xC003]) = true := by decide

theorem test_T41_02 :
    passes (step (testAt 0xC000 [0x21, 0x34, 0x12])) (fun r =>
      [r.cpuCycles == 12, r.reg .h == 0x12, r.reg .l == 0x34, r.regs.pc == 0xC003]) = true := by decide

theorem test_T41_03 :
    passes (step ((testAt 0xC000 [0x08, 0x00, 0xC1]).setSp 0xDFF0)) (fun r =>
      [r.cpuCycles == 20, r.regs.sp == 0xDFF0, r.regs.pc == 0xC003, r.read 0xC100 == 0xF0, r.read 0xC101 == 0xDF]) = true := by decide

theorem test_T41_04 :
    passes (step ((testAt 0xC000 [0xF9]).setReg16 .hl 0xD000)) (fun r =>
      [r.cpuCycles == 8, r.regs.sp == 0xD000, r.regs.pc == 0xC001]) = true := by decide

theorem test_T41_05 :
    passes (step (((testAt 0xC000 [0xF8, 0x08]).setF 0x80).setSp 0xFFF8)) (fun r =>
      [r.cpuCycles == 12, r.reg16 .hl == 0x0000, r.regs.f == 0x30, r.regs.sp == 0xFFF8, r.regs.pc == 0xC002]) = true := by decide

theorem test_T41_07 :
    passes (step ((testAt 0xC000 [0xF8, 0xFF]).setSp 0x0000)) (fun r =>
      [r.cpuCycles == 12, r.reg16 .hl == 0xFFFF, r.regs.f == 0x00, r.regs.pc == 0xC002]) = true := by decide

theorem test_T41_08 :
    passes (step ((testAt 0xC000 [0xC5]).setReg16 .bc 0x1234)) (fun r =>
      [r.cpuCycles == 16, r.regs.sp == 0xFFFC, r.regs.pc == 0xC001, r.read 0xFFFC == 0x34, r.read 0xFFFD == 0x12]) = true := by decide

theorem test_T41_09 :
    passes (step (((testAt 0xC000 [0xF5]).setReg .a 0x12).setF 0xF0)) (fun r =>
      [r.cpuCycles == 16, r.regs.sp == 0xFFFC, r.regs.pc == 0xC001, r.read 0xFFFC == 0xF0, r.read 0xFFFD == 0x12]) = true := by decide

theorem test_T41_10 :
    passes (step (((testAt 0xC000 [0xD5]).setReg16 .de 0xABCD).setSp 0x0001)) (fun r =>
      [r.cpuCycles == 16, r.regs.sp == 0xFFFF, r.regs.pc == 0xC001, r.bus.ie == 0xCD]) = true := by decide

theorem test_T41_11 :
    passes (step (((testAt 0xC000 [0xF1]).setSp 0xFFFC).put 0xFFFC [0xFF, 0x12])) (fun r =>
      [r.cpuCycles == 12, r.reg .a == 0x12, r.regs.f == 0xF0, r.regs.sp == 0xFFFE, r.regs.pc == 0xC001]) = true := by decide

theorem test_T41_12 :
    passes (step ((((testAt 0xC000 [0xE1]).setF 0x50).setSp 0xFFFC).put 0xFFFC [0xCD, 0xAB])) (fun r =>
      [r.cpuCycles == 12, r.reg16 .hl == 0xABCD, r.regs.f == 0x50, r.regs.sp == 0xFFFE, r.regs.pc == 0xC001]) = true := by decide

theorem test_T42_01 :
    passes (step (((testAt 0xC000 [0x80]).setReg .a 0x3A).setReg .b 0xC6)) (fun r =>
      [r.cpuCycles == 4, r.reg .a == 0x00, r.regs.f == 0xB0, r.regs.pc == 0xC001]) = true := by decide

theorem test_T42_02 :
    passes (step ((testAt 0xC000 [0xC6, 0x01]).setReg .a 0x7F)) (fun r =>
      [r.cpuCycles == 8, r.reg .a == 0x80, r.regs.f == 0x20, r.regs.pc == 0xC002]) = true := by decide

theorem test_T42_04 :
    passes (step ((((testAt 0xC000 [0x86]).setReg16 .hl 0xC100).setReg .a 0x01).put 0xC100 [0xFF])) (fun r =>
      [r.cpuCycles == 8, r.reg .a == 0x00, r.regs.f == 0xB0, r.regs.pc == 0xC001]) = true := by decide

theorem test_T42_05 :
    passes (step ((((testAt 0xC000 [0x8B]).setReg .a 0xE1).setReg .e 0x0F).setF 0x10)) (fun r =>
      [r.cpuCycles == 4, r.reg .a == 0xF1, r.regs.f == 0x20, r.regs.pc == 0xC001]) = true := by decide

theorem test_T42_06 :
    passes (step (((testAt 0xC000 [0xCE, 0x00]).setReg .a 0xFF).setF 0x10)) (fun r =>
      [r.cpuCycles == 8, r.reg .a == 0x00, r.regs.f == 0xB0, r.regs.pc == 0xC002]) = true := by decide

theorem test_T42_08 :
    passes (step (((testAt 0xC000 [0x93]).setReg .a 0x3E).setReg .e 0x3E)) (fun r =>
      [r.cpuCycles == 4, r.reg .a == 0x00, r.regs.f == 0xC0, r.regs.pc == 0xC001]) = true := by decide

theorem test_T42_09 :
    passes (step ((testAt 0xC000 [0xD6, 0x01]).setReg .a 0x00)) (fun r =>
      [r.cpuCycles == 8, r.reg .a == 0xFF, r.regs.f == 0x70, r.regs.pc == 0xC002]) = true := by decide

theorem test_T42_10 :
    passes (step ((testAt 0xC000 [0xD6, 0x0F]).setReg .a 0x3E)) (fun r =>
      [r.cpuCycles == 8, r.reg .a == 0x2F, r.regs.f == 0x60, r.regs.pc == 0xC002]) = true := by decide

theorem test_T42_11 :
    passes (step ((((testAt 0xC000 [0x9C]).setReg .a 0x3B).setReg .h 0x2A).setF 0x10)) (fun r =>
      [r.cpuCycles == 4, r.reg .a == 0x10, r.regs.f == 0x40, r.regs.pc == 0xC001]) = true := by decide

theorem test_T42_12 :
    passes (step (((testAt 0xC000 [0xDE, 0xFF]).setReg .a 0x00).setF 0x10)) (fun r =>
      [r.cpuCycles == 8, r.reg .a == 0x00, r.regs.f == 0xF0, r.regs.pc == 0xC002]) = true := by decide

theorem test_T42_15 :
    passes (step ((testAt 0xC000 [0xE6, 0x38]).setReg .a 0x5A)) (fun r =>
      [r.cpuCycles == 8, r.reg .a == 0x18, r.regs.f == 0x20, r.regs.pc == 0xC002]) = true := by decide

theorem test_T42_17 :
    passes (step (((testAt 0xC000 [0xAF]).setReg .a 0x5A).setF 0x70)) (fun r =>
      [r.cpuCycles == 4, r.reg .a == 0x00, r.regs.f == 0x80, r.regs.pc == 0xC001]) = true := by decide

theorem test_T42_18 :
    passes (step ((testAt 0xC000 [0xEE, 0x0F]).setReg .a 0xFF)) (fun r =>
      [r.cpuCycles == 8, r.reg .a == 0xF0, r.regs.f == 0x00, r.regs.pc == 0xC002]) = true := by decide

theorem test_T42_19 :
    passes (step ((testAt 0xC000 [0xF6, 0x03]).setReg .a 0x5A)) (fun r =>
      [r.cpuCycles == 8, r.reg .a == 0x5B, r.regs.f == 0x00, r.regs.pc == 0xC002]) = true := by decide

theorem test_T42_21 :
    passes (step ((testAt 0xC000 [0xFE, 0x40]).setReg .a 0x3C)) (fun r =>
      [r.cpuCycles == 8, r.reg .a == 0x3C, r.regs.f == 0x50, r.regs.pc == 0xC002]) = true := by decide

theorem test_T42_23 :
    passes (step ((((testAt 0xC000 [0xBE]).setReg16 .hl 0xC100).setReg .a 0x3C).put 0xC100 [0x2F])) (fun r =>
      [r.cpuCycles == 8, r.reg .a == 0x3C, r.regs.f == 0x60, r.regs.pc == 0xC001]) = true := by decide

theorem test_T42_24 :
    passes (step (((testAt 0xC000 [0x3C]).setReg .a 0x0F).setF 0x10)) (fun r =>
      [r.cpuCycles == 4, r.reg .a == 0x10, r.regs.f == 0x30, r.regs.pc == 0xC001]) = true := by decide

theorem test_T42_25 :
    passes (step (((testAt 0xC000 [0x0C]).setReg .c 0xFF).setF 0x10)) (fun r =>
      [r.cpuCycles == 4, r.reg .c == 0x00, r.regs.f == 0xB0, r.regs.pc == 0xC001]) = true := by decide

theorem test_T42_26 :
    passes (step (((testAt 0xC000 [0x34]).setReg16 .hl 0xC100).put 0xC100 [0xFF])) (fun r =>
      [r.cpuCycles == 12, r.regs.f == 0xA0, r.regs.pc == 0xC001, r.read 0xC100 == 0x00]) = true := by decide

theorem test_T42_27 :
    passes (step ((testAt 0xC000 [0x05]).setReg .b 0x10)) (fun r =>
      [r.cpuCycles == 4, r.reg .b == 0x0F, r.regs.f == 0x60, r.regs.pc == 0xC001]) = true := by decide

theorem test_T42_30 :
    passes (step (((testAt 0xC000 [0x35]).setReg16 .hl 0xC100).put 0xC100 [0x01])) (fun r =>
      [r.cpuCycles == 12, r.regs.f == 0xC0, r.regs.pc == 0xC001, r.read 0xC100 == 0x00]) = true := by decide

theorem test_T42_32 :
    passes (step (((testAt 0xC000 [0x27]).setReg .a 0x9A).setF 0x00)) (fun r =>
      [r.cpuCycles == 4, r.reg .a == 0x00, r.regs.f == 0x90, r.regs.pc == 0xC001]) = true := by decide

theorem test_T42_34 :
    passes (step (((testAt 0xC000 [0x27]).setReg .a 0x4B).setF 0x60)) (fun r =>
      [r.cpuCycles == 4, r.reg .a == 0x45, r.regs.f == 0x40, r.regs.pc == 0xC001]) = true := by decide

theorem test_T42_37 :
    passes (step (((testAt 0xC000 [0x2F]).setReg .a 0x35).setF 0x90)) (fun r =>
      [r.cpuCycles == 4, r.reg .a == 0xCA, r.regs.f == 0xF0, r.regs.pc == 0xC001]) = true := by decide

theorem test_T42_39 :
    passes (step ((testAt 0xC000 [0x37]).setF 0xE0)) (fun r =>
      [r.cpuCycles == 4, r.regs.f == 0x90, r.regs.pc == 0xC001]) = true := by decide

theorem test_T42_40 :
    passes (step ((testAt 0xC000 [0x3F]).setF 0x90)) (fun r =>
      [r.cpuCycles == 4, r.regs.f == 0x80, r.regs.pc == 0xC001]) = true := by decide

theorem test_T43_01 :
    passes (step ((((testAt 0xC000 [0x09]).setReg16 .bc 0x0605).setReg16 .hl 0x8A23).setF 0xC0)) (fun r =>
      [r.cpuCycles == 8, r.reg16 .hl == 0x9028, r.regs.f == 0xA0, r.regs.pc == 0xC001]) = true := by decide

theorem test_T43_02 :
    passes (step ((testAt 0xC000 [0x29]).setReg16 .hl 0x8A23)) (fun r =>
      [r.cpuCycles == 8, r.reg16 .hl == 0x1446, r.regs.f == 0x30, r.regs.pc == 0xC001]) = true := by decide

theorem test_T43_03 :
    passes (step (((testAt 0xC000 [0x39]).setReg16 .hl 0x0001).setSp 0xFFFF)) (fun r =>
      [r.cpuCycles == 8, r.reg16 .hl == 0x0000, r.regs.f == 0x30, r.regs.pc == 0xC001]) = true := by decide

theorem test_T43_04 :
    passes (step ((testAt 0xC000 [0x13]).setReg16 .de 0x235F)) (fun r =>
      [r.cpuCycles == 8, r.reg16 .de == 0x2360, r.regs.f == 0x00, r.regs.pc == 0xC001]) = true := by decide

theorem test_T43_06 :
    passes (step ((testAt 0xC000 [0x0B]).setReg16 .bc 0x0100)) (fun r =>
      [r.cpuCycles == 8, r.reg16 .bc == 0x00FF, r.regs.pc == 0xC001]) = true := by decide

theorem test_T43_07 :
    passes (step (((testAt 0xC000 [0x3B]).setF 0xF0).setSp 0x0000)) (fun r =>
      [r.cpuCycles == 8, r.regs.f == 0xF0, r.regs.sp == 0xFFFF, r.regs.pc == 0xC001]) = true := by decide

theorem test_T43_08 :
    passes (step (((testAt 0xC000 [0xE8, 0x02]).setF 0xF0).setSp 0xFFF8)) (fun r =>
      [r.cpuCycles == 16, r.regs.f == 0x00, r.regs.sp == 0xFFFA, r.regs.pc == 0xC002]) = true := by decide

theorem test_T43_09 :
    passes (step ((testAt 0xC000 [0xE8, 0xFF]).setSp 0x0001)) (fun r =>
      [r.cpuCycles == 16, r.regs.f == 0x30, r.regs.sp == 0x0000, r.regs.pc == 0xC002]) = true := by decide

theorem test_T44_01 :
    passes (step (((testAt 0xC000 [0x07]).setReg .a 0x85).setF 0xE0)) (fun r =>
      [r.cpuCycles == 4, r.reg .a == 0x0B, r.regs.f == 0x10, r.regs.pc == 0xC001]) = true := by decide

theorem test_T44_03 :
    passes (step (((testAt 0xC000 [0x17]).setReg .a 0x95).setF 0x10)) (fun r =>
      [r.cpuCycles == 4, r.reg .a == 0x2B, r.regs.f == 0x10, r.regs.pc == 0xC001]) = true := by decide

theorem test_T44_05 :
    passes (step ((testAt 0xC000 [0x0F]).setReg .a 0x3B)) (fun r =>
      [r.cpuCycles == 4, r.reg .a == 0x9D, r.regs.f == 0x10, r.regs.pc == 0xC001]) = true := by decide

theorem test_T44_06 :
    passes (step (((testAt 0xC000 [0x1F]).setReg .a 0x81).setF 0x00)) (fun r =>
      [r.cpuCycles == 4, r.reg .a == 0x40, r.regs.f == 0x10, r.regs.pc == 0xC001]) = true := by decide

theorem test_T44_08 :
    passes (step ((testAt 0xC000 [0xCB, 0x00]).setReg .b 0x85)) (fun r =>
      [r.cpuCycles == 8, r.reg .b == 0x0B, r.regs.f == 0x10, r.regs.pc == 0xC002]) = true := by decide

theorem test_T44_09 :
    passes (step (((testAt 0xC000 [0xCB, 0x06]).setReg16 .hl 0xC100).put 0xC100 [0x00])) (fun r =>
      [r.cpuCycles == 16, r.regs.f == 0x80, r.regs.pc == 0xC002, r.read 0xC100 == 0x00]) = true := by decide

theorem test_T44_10 :
    passes (step ((testAt 0xC000 [0xCB, 0x09]).setReg .c 0x01)) (fun r =>
      [r.cpuCycles == 8, r.reg .c == 0x80, r.regs.f == 0x10, r.regs.pc == 0xC002]) = true := by decide

theorem test_T44_12 :
    passes (step ((((testAt 0xC000 [0xCB, 0x16]).setReg16 .hl 0xC100).setF 0x10).put 0xC100 [0x11])) (fun r =>
      [r.cpuCycles == 16, r.regs.f == 0x00, r.regs.pc == 0xC002, r.read 0xC100 == 0x23]) = true := by decide

theorem test_T44_14 :
    passes (step ((((testAt 0xC000 [0xCB, 0x1E]).setReg16 .hl 0xC100).setF 0x10).put 0xC100 [0x8A])) (fun r =>
      [r.cpuCycles == 16, r.regs.f == 0x00, r.regs.pc == 0xC002, r.read 0xC100 == 0xC5]) = true := by decide

theorem test_T44_15 :
    passes (step ((testAt 0xC000 [0xCB, 0x22]).setReg .d 0x80)) (fun r =>
      [r.cpuCycles == 8, r.reg .d == 0x00, r.regs.f == 0x90, r.regs.pc == 0xC002]) = true := by decide

theorem test_T44_17 :
    passes (step ((testAt 0xC000 [0xCB, 0x2F]).setReg .a 0x8A)) (fun r =>
      [r.cpuCycles == 8, r.reg .a == 0xC5, r.regs.f == 0x00, r.regs.pc == 0xC002]) = true := by decide

theorem test_T44_19 :
    passes (step (((testAt 0xC000 [0xCB, 0x37]).setReg .a 0xF1).setF 0xF0)) (fun r =>
      [r.cpuCycles == 8, r.reg .a == 0x1F, r.regs.f == 0x00, r.regs.pc == 0xC002]) = true := by decide

theorem test_T44_21 :
    passes (step ((testAt 0xC000 [0xCB, 0x3F]).setReg .a 0xFF)) (fun r =>
      [r.cpuCycles == 8, r.reg .a == 0x7F, r.regs.f == 0x10, r.regs.pc == 0xC002]) = true := by decide

theorem test_T44_23 :
    passes (step (((testAt 0xC000 [0xCB, 0x7C]).setReg .h 0x80).setF 0x50)) (fun r =>
      [r.cpuCycles == 8, r.reg .h == 0x80, r.regs.f == 0x30, r.regs.pc == 0xC002]) = true := by decide

theorem test_T44_25 :
    passes (step ((((testAt 0xC000 [0xCB, 0x46]).setReg16 .hl 0xC100).setF 0x10).put 0xC100 [0xFE])) (fun r =>
      [r.cpuCycles == 12, r.regs.f == 0xB0, r.regs.pc == 0xC002, r.read 0xC100 == 0xFE]) = true := by decide

theorem test_T44_26 :
    passes (step (((testAt 0xC000 [0xCB, 0xBF]).setReg .a 0x80).setF 0xF0)) (fun r =>
      [r.cpuCycles == 8, r.reg .a == 0x00, r.regs.f == 0xF0, r.regs.pc == 0xC002]) = true := by decide

theorem test_T44_27 :
    passes (step (((testAt 0xC000 [0xCB, 0x8E]).setReg16 .hl 0xC100).put 0xC100 [0xFF])) (fun r =>
      [r.cpuCycles == 16, r.regs.pc == 0xC002, r.read 0xC100 == 0xFD]) = true := by decide

theorem test_T44_29 :
    passes (step ((testAt 0xC000 [0xCB, 0xFD]).setReg .l 0x3B)) (fun r =>
      [r.cpuCycles == 8, r.reg .l == 0xBB, r.regs.pc == 0xC002]) = true := by decide

theorem test_T45_01 :
    passes (step (testAt 0xC000 [0xC3, 0x50, 0x01])) (fun r =>
      [r.cpuCycles == 16, r.regs.pc == 0x0150]) = true := by decide

theorem test_T45_02 :
    passes (step ((testAt 0xC000 [0xC2, 0x00, 0x80]).setF 0x80)) (fun r =>
      [r.cpuCycles == 12, r.regs.pc == 0xC003]) = true := by decide

theorem test_T45_03 :
    passes (step ((testAt 0xC000 [0xC2, 0x00, 0x80]).setF 0x00)) (fun r =>
      [r.cpuCycles == 16, r.regs.pc == 0x8000]) = true := by decide

theorem test_T45_05 :
    passes (step ((testAt 0xC000 [0xE9]).setReg16 .hl 0x4000)) (fun r =>
      [r.cpuCycles == 4, r.regs.pc == 0x4000]) = true := by decide

theorem test_T45_07 :
    passes (step (testAt 0xC000 [0x18, 0xFB])) (fun r =>
      [r.cpuCycles == 12, r.regs.pc == 0xBFFD]) = true := by decide

theorem test_T45_09 :
    passes (step ((testAt 0xC000 [0x20, 0xFC]).setF 0x00)) (fun r =>
      [r.cpuCycles == 12, r.regs.pc == 0xBFFE]) = true := by decide

theorem test_T45_10 :
    passes (step ((testAt 0xC000 [0x20, 0xFC]).setF 0x80)) (fun r =>
      [r.cpuCycles == 8, r.regs.pc == 0xC002]) = true := by decide

theorem test_T45_11 :
    passes (step ((testAt 0xC000 [0x38, 0x10]).setF 0x10)) (fun r =>
      [r.cpuCycles == 12, r.regs.pc == 0xC012]) = true := by decide

theorem test_T45_13 :
    passes (step (testAt 0xC000 [0xCD, 0x34, 0x12])) (fun r =>
      [r.cpuCycles == 24, r.regs.sp == 0xFFFC, r.regs.pc == 0x1234, r.read 0xFFFC == 0x03, r.read 0xFFFD == 0xC0]) = true := by decide

theorem test_T45_14 :
    passes (step (((testAt 0xC000 [0xDC, 0x00, 0x40]).setF 0x10).setSp 0xD000)) (fun r =>
      [r.cpuCycles == 24, r.regs.sp == 0xCFFE, r.regs.pc == 0x4000, r.read 0xCFFE == 0x03, r.read 0xCFFF == 0xC0]) = true := by decide

theorem test_T45_16 :
    passes (step (((testAt 0xC000 [0xC9]).setSp 0xFFFC).put 0xFFFC [0x03, 0xC0])) (fun r =>
      [r.cpuCycles == 16, r.regs.sp == 0xFFFE, r.regs.pc == 0xC003, r.ime == false]) = true := by decide

theorem test_T45_17 :
    passes (step ((((testAt 0xC000 [0xC8]).setF 0x80).setSp 0xFFFC).put 0xFFFC [0x00, 0x02])) (fun r =>
      [r.cpuCycles == 20, r.regs.sp == 0xFFFE, r.regs.pc == 0x0200]) = true := by decide

theorem test_T45_18 :
    passes (step ((((testAt 0xC000 [0xC8]).setF 0x00).setSp 0xFFFC).put 0xFFFC [0x00, 0x02])) (fun r =>
      [r.cpuCycles == 8, r.regs.sp == 0xFFFC, r.regs.pc == 0xC001]) = true := by decide

theorem test_T45_19 :
    passes (step ((((testAt 0xC000 [0xD9]).setSp 0xFFFC).withIme false).put 0xFFFC [0x50, 0x01])) (fun r =>
      [r.cpuCycles == 16, r.regs.sp == 0xFFFE, r.regs.pc == 0x0150, r.ime == true]) = true := by decide

theorem test_T45_21 :
    passes (step (testAt 0xC000 [0xFF])) (fun r =>
      [r.cpuCycles == 16, r.regs.sp == 0xFFFC, r.regs.pc == 0x0038, r.read 0xFFFC == 0x01, r.read 0xFFFD == 0xC0]) = true := by decide

theorem test_T45_22 :
    passes (step (testAt 0xFFFD [0x18, 0x01])) (fun r =>
      [r.cpuCycles == 12, r.regs.pc == 0x0000]) = true := by decide

theorem test_T46_01 :
    passes (step ((testAt 0xC000 [0x00]).setF 0xF0)) (fun r =>
      [r.cpuCycles == 4, r.regs.f == 0xF0, r.regs.pc == 0xC001]) = true := by decide

theorem test_T46_02 :
    passes (step (testAt 0xC000 [0x76])) (fun r =>
      [r.cpuCycles == 4, r.regs.pc == 0xC001, r.halted == true]) = true := by decide

theorem test_T46_06 :
    passes (step (testAt 0xC000 [0x10, 0x55])) (fun r =>
      [r.cpuCycles == 4, r.regs.pc == 0xC002, r.halted == true]) = true := by decide

theorem test_T46_07 :
    passes (step ((testAt 0xC000 [0xF3]).withIme true)) (fun r =>
      [r.cpuCycles == 4, r.regs.pc == 0xC001, r.ime == false, r.eiPending == false]) = true := by decide

theorem test_T46_08 :
    passes (step ((testAt 0xC000 [0xFB]).withIme false)) (fun r =>
      [r.cpuCycles == 4, r.regs.pc == 0xC001, r.ime == false, r.eiPending == true]) = true := by decide

theorem test_T46_11 :
    passes (step (((testAt 0xC000 [0xDD]).setReg .a 0x12).setF 0x50)) (fun r =>
      [r.cpuCycles == 4, r.reg .a == 0x12, r.regs.f == 0x50, r.regs.pc == 0xC000, r.cpuAlive == false]) = true := by decide

theorem test_T46_13 :
    passes (step (testAt 0xC000 [0x3E, 0xCB])) (fun r =>
      [r.cpuCycles == 8, r.reg .a == 0xCB, r.regs.pc == 0xC002]) = true := by decide

theorem test_T60_01 :
    passes (step ((((testAt 0xC000 [0x3C]).withIme true).withIf 0x11).put 0xFFFF [0x11])) (fun r =>
      [r.cpuCycles == 20, r.reg .a == 0x00, r.regs.sp == 0xFFFC, r.regs.pc == 0x0040, r.ime == false, r.bus.ifl == 0x10, r.read 0xFFFC == 0x00, r.read 0xFFFD == 0xC0]) = true := by decide

theorem test_T60_03 :
    passes (step ((((testAt 0xC000 [0x3C]).withIme true).withIf 0x1D).put 0xFFFF [0x02])) (fun r =>
      [r.cpuCycles == 4, r.reg .a == 0x01, r.regs.pc == 0xC001, r.ime == true, r.bus.ifl == 0x1D]) = true := by decide

theorem test_T60_08 :
    passes (step ((((testAt 0xC000 [0xDD]).withIme true).withIf 0x01).put 0xFFFF [0x01])) (fun r =>
      [r.cpuCycles == 20, r.regs.pc == 0x0040, r.cpuAlive == true]) = true := by decide

theorem test_T60_09 :
    passes (step (((((testAt 0xC000 [0x00]).setSp 0x0000).withIme true).withIf 0x04).put 0xFFFF [0x04])) (fun r =>
      [r.cpuCycles == 20, r.regs.sp == 0xFFFE, r.regs.pc == 0x0050, r.bus.ifl == 0x00, r.bus.ie == 0xC0, r.read 0xFFFE == 0x00]) = true := by decide

/-! ## Vectors of 95_test_vectors.md section 5 -/

/-- The bus of the test start state. -/
def testBus : Bus := (testAt 0xC000 []).bus

/-- The timer overflows into TMA and requests TIMER (section 5.2). -/
theorem test_timer_overflow :
    let b := (((testBus.write 0xFF06 0x80).write 0xFF05 0xFE).write 0xFF07 5).timerStep 32
    (b.timer.tima, b.ifl) = (0x80#8, 0b00100#5) := by decide

/-- A write to DIV zeroes it (section 5.2). -/
theorem test_div_write :
    ({ testBus with timer := ⟨0x1234, 0, 0, 0⟩ }.write 0xFF04 0x77).read 0xFF04 = 0 := by decide

/-- A serial transfer with nothing attached ends with 0xFF after 4096 T-cycles (section 5.3). -/
theorem test_serial :
    let b := ((testBus.write 0xFF01 0x41).write 0xFF02 0x81).serialStep 4096
    (b.read 0xFF01, b.read 0xFF02, b.ifl) = (0xFF#8, 0x7F#8, 0b01000#5) := by decide

/-- A pressed A button pulls its line low when the action group is selected (section 5.4). -/
theorem test_joypad :
    let b := { testBus with input := { Buttons.released with a := true } }.write 0xFF00 0x10
    (b.read 0xFF00, b.joypadStep.ifl) = (0xDE#8, 0b10000#5) := by decide

/-- Mode 3 after 80 T-cycles, mode 0 after 252 (section 5.5). -/
theorem test_display_modes :
    ((testBus.write 0xFF40 0x80).ppuStep 80).ppu.mode = .transfer ∧
    (((testBus.write 0xFF40 0x80).ppuStep 76).ppu.mode = .oamScan) := by decide

/-- Switching the LCD on enters mode 2 and raises LCD_STAT (T5-56). -/
theorem test_lcd_on :
    let b := ((testBus.write 0xFF45 0x00).write 0xFF41 0x60).write 0xFF40 0x80
    (b.ifl, b.read 0xFF41) = (0b00010#5, 0xE6#8) := by decide

/-- A quantum of 8 with an instruction of 24: the overshoot is carried on (section 5.6). -/
theorem test_overshoot :
    passes (step { testAt 0xC000 [0xCD, 0x00, 0xC0] with quantum := 8, regs := ⟨0, 0, 0, 0, 0, 0, 0, 0, 0xDFFE, 0xC000⟩ })
      (fun r => [r.carry == 16, r.consumed == 0, r.deviceCycles == 24]) = true := by decide

/-- The mirror, the unused window and IE are storage (section 5.7). -/
theorem test_map :
    (testBus.write 0xE123 0xAB).read 0xC123 = 0xAB ∧ (testBus.write 0xFEA0 0x33).read 0xFEA0 = 0x33 ∧
    (testBus.write 0xFFFF 0xFF).read 0xFFFF = 0xFF ∧ (testBus.write 0xFF0F 0xFF).read 0xFF0F = 0xFF ∧
    (testBus.write 0xFF07 0xFF).read 0xFF07 = 0xFF := by decide

/-- An MBC5 cartridge with 64 banks, each starting with its own number. -/
def testCart : Cart :=
  { Cart.reset with
    variant := .mbc5, romBanks := 64, romLen := 64 * 0x4000
    rom := [(1 * 0x4000, 0x01), (2 * 0x4000, 0x02)] }

/-- Bank 0x82 of 64 is bank 2 (R128). -/
theorem test_mbc5_mask :
    ((testCart.writeRom 0x2000 0x82).writeRom 0x3000 0x00).readRom 0x4000 = 0x02 := by decide

/-- A bus whose MBC3 cartridge has a clock, with clock register `n` selected (vectors T5-87, T5-88). -/
def testClock (n : Byte) : Bus :=
  let b := { testBus with cart := { Cart.reset with variant := .mbc3, hasRtc := true, battery := true } }
  (b.write 0x0000 0x0A).write 0x4000 n

/-- A clock register reads its latched copy, at every offset, and is latched by 0x00 then 0x01 (T5-87). -/
theorem test_clock_latch :
    let b := (testClock 0x08).write 0xA000 0x7B
    let l := (b.write 0x6000 0x00).write 0x6000 0x01
    (b.read 0xA000, l.read 0xA000, l.read 0xBFFF, (l.write 0xA000 0x05).read 0xA000) =
      (0x00#8, 0x3B#8, 0x3B#8, 0x3B#8) := by decide

/-- The flags register of the clock keeps three bits (T5-88). -/
theorem test_clock_mask :
    ((((testClock 0x0C).write 0xA000 0xFF).write 0x6000 0x00).write 0x6000 0x01).read 0xA000 = 0xC1 := by decide

/-- DMA from 0xC100 copies through the router (section 5.9). -/
theorem test_dma :
    let b := ((testBus.write 0xC100 0x5A).write 0xC19F 0xA5).write 0xFF46 0xC1
    (cellGet b.oam 0, cellGet b.oam 0x9F, b.read 0xFF46) = (0x5A#8, 0xA5#8, 0xC1#8) := by decide

/-- The first two pixels of a background tile (section 5.10): colour 0 then 2. -/
theorem test_background :
    let b := ((((testBus.write 0x8010 0x3C).write 0x8011 0x7E).write 0x9800 0x01).write 0xFF47 0xE4)
    let b := { b with ppu := { b.ppu with lcdc := 0x91 } }
    (b.pixelShade 0 0, b.pixelShade 0 1, b.pixelShade 0 2) = (0#2, 2#2, 3#2) := by decide

/-- The bus of vector T5-A8: tile 1 in the background's first cell, and two sprites of tile 2, the second further left. -/
def testSprites : Bus :=
  { testBus with
    vram := [(0x10, 0x3C), (0x11, 0x7E), (0x20, 0xFF), (0x21, 0xFF), (0x1800, 0x01)]
    oam  := [(0, 16), (1, 10), (2, 2), (4, 16), (5, 8), (6, 2), (7, 0x10)]
    ppu  := { testBus.ppu with lcdc := 0x93, bgp := 0xE4, obp0 := 0xE4, obp1 := 0x40 } }

/-- The smaller X wins although its OAM index is higher (T5-A8). -/
theorem test_sprite_priority :
    (testSprites.pixelShade 0 0, testSprites.pixelShade 0 7, testSprites.pixelShade 0 8, testSprites.pixelShade 0 10) =
      (1#2, 1#2, 3#2, 0#2) := by decide

/-- A sprite behind the background shows only where the background's index is 0 (T5-A6). -/
theorem test_sprite_behind :
    let b := { testSprites with oam := [(0, 16), (1, 10), (2, 2), (3, 0x80)] }
    (b.pixelShade 0 2, b.pixelShade 0 6, b.pixelShade 0 7) = (3#2, 2#2, 3#2) := by decide

/-- The window from column WX - 7 (T5-AA). -/
theorem test_window :
    let b :=
      { testSprites with
        vram := testSprites.vram ++ [(0x1C00, 0x02)]
        ppu  := { testSprites.ppu with lcdc := 0xF1, wx := 11 } }
    (b.pixelShade 0 1, b.pixelShade 0 3, b.pixelShade 0 4, b.pixelShade 0 11, b.pixelShade 0 12) =
      (2#2, 3#2, 3#2, 3#2, 0#2) := by decide

/-! ## Witnesses: the hypotheses of every obligation, met together -/

/-- The test start state's bus is legal. -/
theorem testBus_ok : testBus.Ok where
  cart    := ⟨by decide, by decide, by decide, by decide, by decide, nofun, nofun, nofun⟩
  ppu     := ⟨by decide, nofun, by decide, by decide, by decide, by decide, by decide⟩
  boot    := nofun
  vram    := by decide
  wram    := by decide
  oam     := by decide
  unused  := by decide
  ioPlain := by decide
  hram    := by decide

/-- The test start state meets the invariant, and takes a step. -/
theorem witness_InvariantIsKeptByEveryStep :
    (testAt 0xC000 []).Inv ∧ ∃ t, step (testAt 0xC000 []) = .next t :=
  ⟨⟨by decide, testBus_ok, by decide, by decide, by decide, by decide, by decide, by decide⟩, _, rfl⟩

/-- A well-formed configuration that loads. -/
theorem witness_InvariantHoldsAfterReset : Cfg.default.wf = true ∧ reset Cfg.default = .ok State.reset :=
  ⟨by decide, rfl⟩

theorem witness_DecodedBytesAreTheEncoding : decode [0x3E, 0x7F, 0x00] = .ok (.ldA_n 0x7F, [0x00]) := by decide

theorem witness_StepRunsTheDecodedInstruction :
    let s := testAt 0xC000 [0x3E, 0x7F]
    s.cpuAlive = true ∧ s.inQuantum = true ∧ (s.ime = false ∨ s.pending = 0) ∧ (s.halted = false ∨ s.pending ≠ 0) ∧
    decode [s.read s.regs.pc, s.read (s.regs.pc + 1), s.read (s.regs.pc + 2)] = .ok (.ldA_n 0x7F, [0x00]) := by
  decide +kernel

theorem witness_EndOfQuantumStepsTheDevices :
    (let s := { testAt 0xC000 [] with consumed := 452 }; s.cpuAlive = true ∧ s.consumed + s.carry < s.quantum) ∧
    (let s := { testAt 0xC000 [] with consumed := 456 }; s.quantum ≤ s.consumed + s.carry) ∧
    (let s := { testAt 0xC000 [] with cpuAlive := false }; s.cpuAlive = false) := by decide

theorem witness_DispatchEntersTheHandler :
    let s := ((testAt 0xC000 []).withIf 0x11).put 0xFFFF [0x10]
    (s.withIme true).ime = true ∧ (s.withIme true).nextInterrupt = some .joypad := by decide

theorem witness_StandbyIdlesAndWakes :
    (let s := { testAt 0xC000 [] with halted := true }; s.halted = true ∧ s.pending = 0) ∧
    (let s := { ((testAt 0xC000 []).withIf 0x04).put 0xFFFF [0x04] with halted := true }
     s.halted = true ∧ s.pending ≠ 0 ∧ s.ime = false) := by decide

theorem witness_EiTakesEffectOneInstructionLate :
    let s := ((testAt 0xC000 []).withIf 0x04).put 0xFFFF [0x04]
    s.ime = false ∧ s.halted = false ∧ s.pending ≠ 0 := by decide

theorem witness_DeadMachineIsFrozen :
    ({ testAt 0xC000 [] with cpuAlive := false } : State).cpuAlive = false ∧
    ∃ t, step (testAt 0xC000 []) = .next t ∧ t.cpuAlive = true :=
  ⟨rfl, _, rfl, rfl⟩

theorem witness_IllegalOpcodesAreFatal : Instr.illegalD3 ∈ Instr.illegals ∧ Instr.illegalFD ∈ Instr.illegals := by decide

theorem witness_PlainStoresReadBack :
    testBus.Ok ∧ testBus.storesPlainly 0xC000 = true ∧ testBus.storesPlainly 0xFFFF = true ∧
    regionOf 0xE000 = regionOf 0xC000 ∧ regionOf 0xFFFE ≠ regionOf 0xFFFF :=
  ⟨testBus_ok, by decide, by decide, by decide, by decide⟩

theorem witness_MemoryOutsideTheStoresIsUnchanged :
    testBus.Ok ∧ (∀ w ∈ Instr.pushBC.stores (testAt 0xC000 []), testBus.storesPlainly w.1 = true) ∧
    Instr.pushBC.stores (testAt 0xC000 []) = [(0xFFFC, 0x00), (0xFFFD, 0x00)] ∧
    ∀ w ∈ Instr.pushBC.stores (testAt 0xC000 []), regionOf 0xFFFB ≠ regionOf w.1 := by
  have h : Instr.pushBC.stores (testAt 0xC000 []) = [(0xFFFC, 0x00), (0xFFFD, 0x00)] := rfl
  rw [h]
  refine ⟨testBus_ok, fun w hw => ?_, rfl, fun w hw => ?_⟩ <;>
    (rw [List.mem_cons, List.mem_singleton] at hw; rcases hw with rfl | rfl <;> decide)

theorem witness_PopUndoesPush :
    testBus.Ok ∧
    (let s := testAt 0xC000 []
     s.bus.storesPlainly (s.regs.sp - 2) = true ∧ s.bus.storesPlainly (s.regs.sp - 1) = true ∧
     s.regs.f.extractLsb' 0 4 = 0) :=
  ⟨testBus_ok, by decide⟩

theorem witness_ReturnUndoesCall :
    testBus.Ok ∧
    (let s := { testAt 0xC000 [] with regs := { Regs.reset with sp := 0xC001 } }
     s.bus.storesPlainly (s.regs.sp - 1) = true) ∧
    (let s := testAt 0xC000 []
     s.bus.storesPlainly (s.regs.sp - 2) = true ∧ s.bus.storesPlainly (s.regs.sp - 1) = true) :=
  ⟨testBus_ok, by decide, by decide⟩

theorem witness_AddAndAdcAreIntegerSums :
    let s := (testAt 0xC000 []).setF 0x10
    (AluOp.adc = .add ∧ true = false) ∨ (AluOp.adc = .adc ∧ true = s.regs.f.getLsbD 4) := by decide

theorem witness_SubSbcAndCpAreIntegerDifferences :
    let s := (testAt 0xC000 []).setF 0x10
    ((AluOp.cp = .sub ∨ AluOp.cp = .cp) ∧ false = false) ∧ (AluOp.sbc = .sbc ∧ true = s.regs.f.getLsbD 4) := by decide

theorem witness_LogicOperations : AluOp.xor = .and ∨ AluOp.xor = .xor ∨ AluOp.xor = .or := by decide

theorem witness_DaaMakesDecimalSums :
    let s := ((testAt 0xC000 []).setReg .a 0x99).setF 0x10
    (AluOp.adc = .adc ∧ true = s.regs.f.getLsbD 4) ∧ isBcd s.regs.a = true ∧ isBcd 0x99 = true := by decide

theorem witness_AccumulatorRotatesClearZ :
    (RotOp.rr, Instr.rra, 0x1F#8) ∈
      [(RotOp.rlc, Instr.rlca, 0x07#8), (.rrc, .rrca, 0x0F#8), (.rl, .rla, 0x17#8), (.rr, .rra, 0x1F#8)] := by decide

theorem witness_FlagsFollowTheirColumns : (testAt 0xC000 []).regs.f.extractLsb' 0 4 = 0 := by decide

theorem witness_MirrorAndWordAccesses :
    (0xE000 ≤ (0xE000#16).toNat ∧ (0xE000#16).toNat ≤ 0xFDFF) ∧ (0xE000 ≤ (0xFDFF#16).toNat ∧ (0xFDFF#16).toNat ≤ 0xFDFF) := by
  decide

theorem witness_VideoMemoryIsBlockedByMode :
    (let b := { testBus with ppu := { testBus.ppu with lcdc := 0x80, mode := .transfer } }
     b.contention = true ∧ b.ppu.lcdc.getLsbD 7 = true ∧ b.ppu.mode = .transfer) ∧
    (let b := { testBus with ppu := { testBus.ppu with lcdc := 0x80, mode := .oamScan } }
     b.ppu.lcdc.getLsbD 7 = true ∧ (b.ppu.mode = .oamScan ∨ b.ppu.mode = .transfer)) ∧
    0x8000 ≤ (0x9FFF#16).toNat ∧ (0x9FFF#16).toNat ≤ 0x9FFF ∧ 0xFE00 ≤ (0xFE00#16).toNat ∧
    (0xFE9F#16).toNat ≤ 0xFE9F := by decide

theorem witness_OverlayAndRomAreNeverWritten :
    (let b := { testBus with boot := some [(0xFF, 0x50)], bootOff := false }
     b.boot = some [(0xFF, 0x50)] ∧ b.bootOff = false ∧ (0xFF#16).toNat ≤ 0xFF ∧ 0xFF < (0x100#16).toNat) ∧
    (testBus.boot = none ∧ testBus.bootOff = true ∧ (0x7FFF#16).toNat ≤ 0x7FFF ∧ ¬ (0x8000#16).toNat ≤ 0x7FFF) := by decide

theorem witness_IoRegistersReadBack :
    (let b := { testBus with ppu := { testBus.ppu with lcdc := 0x80 } }
     (b.ppu.lcdc.getLsbD 7 = true ∧ (0x7F#8).getLsbD 7 = false) ∧ b.ppu.lcdc.getLsbD 7 = (0x80#8).getLsbD 7) ∧
    (testBus.ppu.lcdc.getLsbD 7 = false ∧ (0x80#8).getLsbD 7 = true) := by decide

theorem witness_DmaCopiesThroughTheRouter : testBus.Ok ∧ 159 < 160 ∧ (0xFF#8 = 0xFF ∧ 0x46 < 160) :=
  ⟨testBus_ok, by decide, by decide⟩

/-- The legal cartridge, and the variants with the widths their clauses ask for. -/
theorem witness_BankIndicesAreMasked :
    Cart.reset.Ok ∧ Cart.reset.variant = .noMbc ∧
    (let c : Cart := { Cart.reset with variant := .mbc1 }; c.variant = .mbc1 ∧ c.romBankLo.toNat ≤ 0x1F) ∧
    ({ Cart.reset with variant := .mbc3 } : Cart).variant = .mbc3 ∧ (testCart.variant = .mbc5 ∧ testCart.romBanks = 64) ∧
    ({ testCart with ramBanks := 16, ramEnable := true } : Cart).ramTarget = .bank 0 :=
  ⟨testBus_ok.cart, rfl, by decide, rfl, by decide, by decide⟩

/-- The three targets of external RAM, the clock's first and last register among them, and the ends of the window. -/
theorem witness_BankIndicesAreMasked_targets :
    testBus.cart.ramTarget = .absent ∧ (testClock 0x0D).cart.ramTarget = .absent ∧
    (testClock 0x08).cart.ramTarget = .clock 0 ∧ (testClock 0x0C).cart.ramTarget = .clock 4 ∧
    (let b := { testBus with cart := { testCart with ramBanks := 16, ramEnable := true, ramBank := 0xF } }
     b.cart.ramTarget = .bank 15) ∧
    0xA000 ≤ (0xA000#16).toNat ∧ (0xBFFF#16).toNat ≤ 0xBFFF := by decide

/-- The ends of the address ranges, read off the effects: 0x3FFF selects a bank, 0x4000 and 0x5FFF do not. -/
theorem witness_BankIndicesAreMasked_ranges :
    (let c : Cart := { Cart.reset with variant := .mbc1, romBanks := 128 }
     (c.writeRom 0x3FFF 0x20).romBankLo = 0x01 ∧ (c.writeRom 0x4000 0x03).romBankHi = 3 ∧
     (c.writeRom 0x5FFF 0x03).romBankHi = 3 ∧ (c.writeRom 0x6000 0x01).mbc1Mode = true ∧
     (c.writeRom 0x1FFF 0x1A).ramEnable = true) ∧
    (testCart.writeRom 0x2FFF 0x82).romBankLo = 0x82 ∧ (testCart.writeRom 0x3000 0xFF).romBankHi = 1 ∧
    (testCart.writeRom 0x7FFF 0xFF) = testCart := by decide

theorem witness_TimerStepInClosedForm :
    ({ testBus.timer with tima := 0xFF } : Timer).tima.toNat = 0xFF ∧
    ({ testBus.timer with tima := 0xFE } : Timer).tima.toNat ≠ 0xFF := by decide

theorem witness_SerialTransferCompletes :
    testBus.serial.transfer = false ∧
    (let b := { testBus with serial := ⟨0, true, true, 4096⟩ }
     b.serial.transfer = true ∧ b.serial.internal = true ∧ 4095 < b.serial.count ∧ b.serial.count ≤ 4096) := by decide

theorem witness_JoypadLinesAndEdges :
    let b := { testBus with input := { Buttons.released with down := true } }
    3 < 4 ∧ b.joyPrev.getLsbD 3 = true ∧ b.joyLow.getLsbD 3 = false := by decide

theorem witness_FrameIs70224Cycles :
    let b := Bus.reset
    b.ppu.lcdOn = true ∧ b.ppu.ly = 0 ∧ b.ppu.mode = .oamScan ∧ b.ppu.dot = 0 ∧ b.ppu.dot < b.ppu.mode.width := by decide

/-- A display at the last T-cycle of a mode on a scanline. -/
def testDot (m : DisplayMode) (ly : Byte) : Bus :=
  { testBus with ppu := { testBus.ppu with lcdc := 0x80, mode := m, ly := ly, dot := m.width - 1 } }

/-- Every crossing is one T-cycle away in some display, and every crossing's last T-cycle is met too. -/
theorem witness_FrameIs70224Cycles_crossings :
    (let b := testDot .oamScan 0; b.ppu.lcdOn = true ∧ b.ppu.dot < b.ppu.mode.width ∧ 80 ≤ b.ppu.dot + 1 ∧
      b.ppu.dot + 172 < 80 + 172) ∧
    (let b := testDot .transfer 0; b.ppu.mode = .transfer ∧ 172 ≤ b.ppu.dot + 1 ∧ b.ppu.dot + 204 < 172 + 204) ∧
    (let b := testDot .hblank 142; b.ppu.ly ≠ 143 ∧ 204 ≤ b.ppu.dot + 1 ∧ b.ppu.dot + 80 < 204 + 80) ∧
    (let b := testDot .hblank 143; b.ppu.ly = 143 ∧ 204 ≤ b.ppu.dot + 1 ∧ b.ppu.dot + 456 < 204 + 456) ∧
    (let b := testDot .vblank 152; b.ppu.ly ≠ 153 ∧ 456 ≤ b.ppu.dot + 1 ∧ b.ppu.dot + 456 < 456 + 456) ∧
    (let b := testDot .vblank 153; b.ppu.ly = 153 ∧ 456 ≤ b.ppu.dot + 1 ∧ b.ppu.dot + 80 < 456 + 80) ∧
    testBus.ppu.lcdOn = false ∧ (testDot .hblank 0).ppu.dot + 0 < (testDot .hblank 0).ppu.mode.width := by decide

/-- A step that publishes no frame. -/
theorem witness_FrameIs70224Cycles_step :
    ∃ t, step (testAt 0xC000 []) = .next t ∧ t.bus.ppu.frames = (testAt 0xC000 []).bus.ppu.frames := ⟨_, rfl, rfl⟩

theorem witness_RenderLineWritesOneRow :
    Store.wf (144 * 160) testBus.ppu.fbBack = true ∧ 143 < 144 ∧ 159 < 160 ∧ 160 * 143 - 1 < 160 * 143 := by decide

/-- Eleven sprites on scanline 0: the tenth is considered, the eleventh is not. -/
theorem witness_RenderLineWritesOneRow_sprites :
    let b : Bus := { testBus with oam := (List.range 11).map fun i => (4 * i, 16#8) }
    let covers : Nat → Bool := fun j =>
      decide ((cellGet b.oam (4 * j)).toNat ≤ 16 ∧ 16 < (cellGet b.oam (4 * j)).toNat + 8)
    (∀ j, covers j = true ↔ (cellGet b.oam (4 * j)).toNat ≤ 16 ∧ 16 < (cellGet b.oam (4 * j)).toNat + 8) ∧
    8 = (if b.ppu.lcdc.getLsbD 2 = true then 16 else 8) ∧ 9 ∈ b.spritesOn 0 ∧ 10 ∉ b.spritesOn 0 := by
  refine ⟨fun j => decide_eq_true_iff, by decide, by decide, by decide⟩

/-- A column where two sprites show and the second wins, and one where none does. -/
theorem witness_RenderLineWritesOneRow_winner :
    testSprites.ppu.lcdc.getLsbD 1 = true ∧ 1 ∈ testSprites.spritesOn 0 ∧
    testSprites.spritePixel 0 7 1 = some ⟨8, 3, 0x10⟩ ∧
    (∀ (j : Nat) (q : SpritePixel), j ∈ testSprites.spritesOn 0 → testSprites.spritePixel 0 7 j = some q →
      8 < q.sx ∨ (8 = q.sx ∧ 1 ≤ j)) ∧
    (∀ i, i ∈ testSprites.spritesOn 0 → testSprites.spritePixel 0 10 i = none) ∧
    testBus.ppu.lcdc.getLsbD 1 = false := by
  have h : testSprites.spritesOn 0 = [0, 1] := by decide
  have h0 : testSprites.spritePixel 0 7 0 = some ⟨10, 3, 0⟩ := by decide
  refine ⟨by decide, by decide, by decide, fun j q hj hq => ?_, fun i hi => ?_, by decide⟩
  · rw [h, List.mem_cons, List.mem_singleton] at hj
    rcases hj with rfl | rfl
    · rw [h0] at hq
      cases hq
      decide
    · exact .inr ⟨by rw [show testSprites.spritePixel 0 7 1 = some ⟨8, 3, 0x10⟩ by decide] at hq; cases hq; rfl, le_rfl⟩
  · rw [h, List.mem_cons, List.mem_singleton] at hi
    rcases hi with rfl | rfl <;> decide

theorem witness_StepsRefineSleepCycle : State.reset.cpuAlive = true ∧ State.reset.consumed = 0 := by decide

/-- Both columns, and a cartridge with RAM and ROM banks to read. -/
theorem witness_ResetSucceedsExactlyWithoutLoadFailures :
    (∃ s, reset Cfg.default = .ok s ∧ 1 < s.bus.cart.romBanks) ∧ Cfg.default.bootRom.len = 0 ∧
    (∃ s, reset { Cfg.default with bootRom := ⟨256, [(255, 0x50)]⟩ } = .ok s) ∧
    ∃ s, reset (testCfg 0x1B 0 2) = .ok s ∧ 0x1FFF < s.bus.cart.ramBanks * 0x2000 :=
  ⟨⟨_, rfl, by decide⟩, rfl, ⟨_, rfl⟩, _, rfl, by decide⟩

/-- A battery-backed MBC5 cartridge with one RAM bank, whose RAM the program has written. -/
theorem witness_SavedRamIsReloaded :
    ∃ s0, reset (testCfg 0x1B 0 2) = .ok s0 ∧
      ∃ s : State, s = { s0 with bus := { s0.bus with cart := { s0.bus.cart with eram := [(5, 0x77)] } } } ∧
        s.bus.cart.Ok ∧ s.bus.cart.battery = s0.bus.cart.battery ∧ s.bus.cart.hasRtc = s0.bus.cart.hasRtc ∧
        s.bus.cart.ramBanks = s0.bus.cart.ramBanks ∧ s.savePersisted = some ⟨0x2000, [(5, 0x77)]⟩ :=
  ⟨_, rfl, _, rfl, ⟨by decide, by decide, by decide, by decide, by decide, nofun, nofun, fun _ => by decide⟩, rfl, rfl, rfl,
    by decide⟩

end Sys2Proof.Machine
end

section
/-! SUPPORT. What an instruction can do, said once: `exec` is one of the shared meanings, each with its byte stores, flag column and
cost beside it. -/

namespace Sys2Proof.Machine

/-- A meaning with what the tables say of it: its byte stores, its flag column, the condition it depends on, and its cost where the
condition fails and where it holds (R153, R394). -/
structure Profile where
  run       : State → State
  stores    : State → List (Word × Byte)
  flags     : FlagColumn
  condition : Option Cond
  cost      : Nat × Nat

/-- The accumulator operations, each with its flag column (R215 to R222). -/
inductive AluMeaning : (State → Byte → State) → FlagColumn → Prop
  | add : AluMeaning aluAdd fZ0HC
  | adc : AluMeaning aluAdc fZ0HC
  | sub : AluMeaning aluSub fZ1HC
  | sbc : AluMeaning aluSbc fZ1HC
  | and : AluMeaning aluAnd fZ010
  | xor : AluMeaning aluXor fZ000
  | or  : AluMeaning aluOr fZ000
  | cp  : AluMeaning aluCp fZ1HC

/-- POP AF alone writes F (R207). -/
def popFlags : StackPair → FlagColumn
  | .af => fZNHC
  | _   => fKKKK

/-- The meanings `exec` is made of, by the families of the spec. SWAP stands before the other rotates, because its flag column is
narrower (R261). -/
inductive Meaning : Profile → Prop
  | nop : Meaning ⟨nopState, fun _ => [], fKKKK, none, (4, 4)⟩
  | halt : Meaning ⟨haltState, fun _ => [], fKKKK, none, (4, 4)⟩
  | di : Meaning ⟨diState, fun _ => [], fKKKK, none, (4, 4)⟩
  | ei : Meaning ⟨eiState, fun _ => [], fKKKK, none, (4, 4)⟩
  | illegal : Meaning ⟨State.raiseIllegalOpcode, fun _ => [], fKKKK, none, (illegalCost, illegalCost)⟩
  | ldRegReg (dst src : Reg8) : Meaning ⟨ldRegReg dst src, fun _ => [], fKKKK, none, (4, 4)⟩
  | ldRegImm (dst : Reg8) (n : Byte) : Meaning ⟨ldRegImm dst n, fun _ => [], fKKKK, none, (8, 8)⟩
  | ldRegMem (dst : Reg8) : Meaning ⟨ldRegMem dst, fun _ => [], fKKKK, none, (8, 8)⟩
  | ldMemReg (src : Reg8) : Meaning ⟨ldMemReg src, fun s => [(s.hl, s.reg src)], fKKKK, none, (8, 8)⟩
  | ldMemImm (n : Byte) : Meaning ⟨ldMemImm n, fun s => [(s.hl, n)], fKKKK, none, (12, 12)⟩
  | loadA (addr : State → Word) (n : Nat) :
      Meaning ⟨fun s => loadA (addr s) n s, fun _ => [], fKKKK, none, (n, n)⟩
  | storeA (addr : State → Word) (n : Nat) :
      Meaning ⟨fun s => storeA (addr s) n s, fun s => [(addr s, s.regs.a)], fKKKK, none, (n, n)⟩
  | loadAHl (d : Word) : Meaning ⟨loadAHl d, fun _ => [], fKKKK, none, (8, 8)⟩
  | storeAHl (d : Word) : Meaning ⟨storeAHl d, fun s => [(s.hl, s.regs.a)], fKKKK, none, (8, 8)⟩
  | ldPairImm (rr : Reg16) (nn : Word) : Meaning ⟨ldPairImm rr nn, fun _ => [], fKKKK, none, (12, 12)⟩
  | ldMemSp (nn : Word) : Meaning ⟨ldMemSp nn, fun s => s.wordStores nn s.regs.sp, fKKKK, none, (20, 20)⟩
  | ldSpHl : Meaning ⟨ldSpHl, fun _ => [], fKKKK, none, (8, 8)⟩
  | ldHlSpe (e : Byte) : Meaning ⟨ldHlSpe e, fun _ => [], f00HC, none, (12, 12)⟩
  | pushPair (rr : StackPair) :
      Meaning ⟨pushPair rr, fun s => s.pushStores (s.regs.getStack rr), fKKKK, none, (16, 16)⟩
  | popPair (rr : StackPair) : Meaning ⟨popPair rr, fun _ => [], popFlags rr, none, (12, 12)⟩
  | addHl (rr : Reg16) : Meaning ⟨addHl rr, fun _ => [], fK0HC, none, (8, 8)⟩
  | incPair (rr : Reg16) : Meaning ⟨incPair rr, fun _ => [], fKKKK, none, (8, 8)⟩
  | decPair (rr : Reg16) : Meaning ⟨decPair rr, fun _ => [], fKKKK, none, (8, 8)⟩
  | addSpe (e : Byte) : Meaning ⟨addSpe e, fun _ => [], f00HC, none, (16, 16)⟩
  | aluReg (op : State → Byte → State) (k : FlagColumn) (r : Reg8) (hop : AluMeaning op k) :
      Meaning ⟨aluReg op r, fun _ => [], k, none, (4, 4)⟩
  | aluMem (op : State → Byte → State) (k : FlagColumn) (hop : AluMeaning op k) :
      Meaning ⟨aluMem op, fun _ => [], k, none, (8, 8)⟩
  | aluImm (op : State → Byte → State) (k : FlagColumn) (n : Byte) (hop : AluMeaning op k) :
      Meaning ⟨aluImm op n, fun _ => [], k, none, (8, 8)⟩
  | incReg (r : Reg8) : Meaning ⟨incReg r, fun _ => [], fZ0HK, none, (4, 4)⟩
  | decReg (r : Reg8) : Meaning ⟨decReg r, fun _ => [], fZ1HK, none, (4, 4)⟩
  | incMem : Meaning ⟨incMem, fun s => [(s.hl, (incByte s.regs.f (s.read s.hl)).1)], fZ0HK, none, (12, 12)⟩
  | decMem : Meaning ⟨decMem, fun s => [(s.hl, (decByte s.regs.f (s.read s.hl)).1)], fZ1HK, none, (12, 12)⟩
  | daa : Meaning ⟨aluDaa, fun _ => [], fZK0C, none, (4, 4)⟩
  | cpl : Meaning ⟨aluCpl, fun _ => [], fK11K, none, (4, 4)⟩
  | scf : Meaning ⟨aluScf, fun _ => [], fK001, none, (4, 4)⟩
  | ccf : Meaning ⟨aluCcf, fun _ => [], fK00C, none, (4, 4)⟩
  | rotAcc (f : RotFn) : Meaning ⟨rotAcc f, fun _ => [], f000C, none, (4, 4)⟩
  | swapReg (r : Reg8) : Meaning ⟨rotReg swapNibbles r, fun _ => [], fZ000, none, (8, 8)⟩
  | swapMem : Meaning ⟨rotMem swapNibbles,
      fun s => [(s.hl, (swapNibbles (s.read s.hl) (flagC s.regs.f)).1)], fZ000, none, (16, 16)⟩
  | rotReg (f : RotFn) (r : Reg8) : Meaning ⟨rotReg f r, fun _ => [], fZ00C, none, (8, 8)⟩
  | rotMem (f : RotFn) : Meaning ⟨rotMem f,
      fun s => [(s.hl, (f (s.read s.hl) (flagC s.regs.f)).1)], fZ00C, none, (16, 16)⟩
  | bitReg (b : Nat) (r : Reg8) : Meaning ⟨bitReg b r, fun _ => [], fZ01K, none, (8, 8)⟩
  | bitMem (b : Nat) : Meaning ⟨bitMem b, fun _ => [], fZ01K, none, (12, 12)⟩
  | editReg (f : Byte → Nat → Byte) (b : Nat) (r : Reg8) :
      Meaning ⟨editReg f b r, fun _ => [], fKKKK, none, (8, 8)⟩
  | editMem (f : Byte → Nat → Byte) (b : Nat) :
      Meaning ⟨editMem f b, fun s => [(s.hl, f (s.read s.hl) b)], fKKKK, none, (16, 16)⟩
  | jpAlways (nn : Word) : Meaning ⟨jpAlways nn, fun _ => [], fKKKK, none, (16, 16)⟩
  | jpIf (cc : Cond) (nn : Word) : Meaning ⟨jpIf cc nn, fun _ => [], fKKKK, some cc, (12, 16)⟩
  | jpHl : Meaning ⟨jpHl, fun _ => [], fKKKK, none, (4, 4)⟩
  | jrAlways (e : Byte) : Meaning ⟨jrAlways e, fun _ => [], fKKKK, none, (12, 12)⟩
  | jrIf (cc : Cond) (e : Byte) : Meaning ⟨jrIf cc e, fun _ => [], fKKKK, some cc, (8, 12)⟩
  | callAlways (nn : Word) : Meaning ⟨callAlways nn, fun s => s.pushStores s.regs.pc, fKKKK, none, (24, 24)⟩
  | callIf (cc : Cond) (nn : Word) :
      Meaning ⟨callIf cc nn, fun s => if s.cond cc then s.pushStores s.regs.pc else [], fKKKK, some cc, (12, 24)⟩
  | retAlways : Meaning ⟨retAlways, fun _ => [], fKKKK, none, (16, 16)⟩
  | retIf (cc : Cond) : Meaning ⟨retIf cc, fun _ => [], fKKKK, some cc, (8, 20)⟩
  | reti : Meaning ⟨retiAlways, fun _ => [], fKKKK, none, (16, 16)⟩
  | rst (t : Nat) : Meaning ⟨rstTo t, fun s => s.pushStores s.regs.pc, fKKKK, none, (16, 16)⟩

/-- What the tables and the list of stores say of an instruction agrees with a profile. -/
structure Profile.Describes (p : Profile) (i : Instr) : Prop where
  exec_eq   : ∀ s, exec i s = .next (p.run s)
  stores    : ∀ s, i.stores s = p.stores s
  condition : i.condition = p.condition
  flags     : documentedFlags ((encode i).getD 0 0) ((encode i).getD 1 0) = p.flags
  costNot   : documentedCost ((encode i).getD 0 0) ((encode i).getD 1 0) false = p.cost.1
  costTaken : documentedCost ((encode i).getD 0 0) ((encode i).getD 1 0) true = p.cost.2

/-- An instruction is described by the meaning its arm of `exec` calls and by the tables' entries for its bytes. -/
theorem Meaning.describe {i : Instr} {run : State → State} {stores : State → List (Word × Byte)} {flags : FlagColumn}
    {condition : Option Cond} {cost : Nat × Nat} {b0 : Byte} {bs : List Byte} (hexec : ∀ s, exec i s = .next (run s))
    (hencode : encode i = b0 :: bs) (hm : Meaning ⟨run, stores, flags, condition, cost⟩)
    (hstores : ∀ s, i.stores s = stores s) (hcondition : i.condition = condition)
    (hflags : documentedFlags b0 (bs.getD 0 0) = flags) (hnot : documentedCost b0 (bs.getD 0 0) false = cost.1)
    (htaken : documentedCost b0 (bs.getD 0 0) true = cost.2) : ∃ p, Meaning p ∧ p.Describes i :=
  ⟨_, hm, hexec, hstores, hcondition, by rw [hencode]; exact hflags, by rw [hencode]; exact hnot,
    by rw [hencode]; exact htaken⟩

/-- Every instruction is one of the shared meanings, with the byte stores, flag column and cost the tables give it (R148, R149,
R153). Per constructor, the arm of `exec` names the meaning, the meaning picks its constructor, and only then are the stores and the
tables' entries held against it by evaluation, which is why those are `by` blocks. -/
theorem exec_meaning (i : Instr) : ∃ p, Meaning p ∧ p.Describes i := by
  cases i <;>
    exact Meaning.describe (fun _ => rfl) rfl (by with_reducible constructor <;> constructor) (fun _ => by exact rfl)
      (by exact rfl) (by exact rfl) (by exact rfl) (by exact rfl)

/-- The cost of a meaning in a state (R394). -/
def Profile.spent (p : Profile) (s : State) : Nat :=
  match p.condition with
  | some cc => if s.cond cc then p.cost.2 else p.cost.1
  | none    => p.cost.1

/-- Every documented cost is 4 to 24 T-cycles, a multiple of 4 (R393, R440). -/
theorem documentedCost_bounds (b0 b1 : Byte) (taken : Bool) :
    4 ≤ documentedCost b0 b1 taken ∧ documentedCost b0 b1 taken ≤ 24 ∧ documentedCost b0 b1 taken % 4 = 0 := by
  by_cases h : b0 = 0xCB
  · unfold documentedCost prefixedCost
    rw [if_pos h]
    split_ifs <;> decide
  · rw [documentedCost_of_ne h]
    revert b0 taken
    decide

/-- A meaning spends one of its two costs. -/
theorem Profile.spent_mem (p : Profile) (s : State) : p.spent s ∈ [p.cost.1, p.cost.2] := by
  unfold Profile.spent
  split
  · split_ifs <;> simp
  · simp

/-- What an instruction spends is 4 to 24 T-cycles, a multiple of 4 (R393, R440). -/
theorem Profile.Describes.spent_bounds {p : Profile} {i : Instr} (h : p.Describes i) (s : State) :
    4 ≤ p.spent s ∧ p.spent s ≤ 24 ∧ p.spent s % 4 = 0 := by
  have hs := p.spent_mem s
  rw [← h.costNot, ← h.costTaken, List.mem_cons, List.mem_singleton] at hs
  rcases hs with hs | hs <;> rw [hs] <;> exact documentedCost_bounds _ _ _

/-! ## What a meaning leaves alone -/

/-- From `s` to `t` the CPU spends `n` T-cycles, and the rest of the scheduler's state stays (R392). -/
structure State.Spends (s t : State) (n : Nat) : Prop where
  consumed     : t.consumed = s.consumed + n
  cpuCycles    : t.cpuCycles = s.cpuCycles + n
  quantum      : t.quantum = s.quantum
  carry        : t.carry = s.carry
  deviceCycles : t.deviceCycles = s.deviceCycles
  inputs       : t.inputs = s.inputs

/-- A choice between two outcomes spends the cost of the one chosen. -/
theorem State.Spends.ite {s t u : State} {m n : Nat} (c : Bool) (ht : s.Spends t m) (hu : s.Spends u n) :
    s.Spends (if c then t else u) (if c then m else n) := by
  cases c
  · exact hu
  · exact ht

/-- An accumulator operation and its ticks spend the ticks. -/
theorem AluMeaning.spends {op : State → Byte → State} {k : FlagColumn} (h : AluMeaning op k) (s : State) (x : Byte)
    (n : Nat) : s.Spends ((op s x).tick n) n := by
  cases h <;> exact ⟨rfl, rfl, rfl, rfl, rfl, rfl⟩

/-- An accumulator operation leaves the bus alone. -/
theorem AluMeaning.bus {op : State → Byte → State} {k : FlagColumn} (h : AluMeaning op k) (s : State) (x : Byte) :
    (op s x).bus = s.bus := by
  cases h <;> rfl

/-- A meaning spends its cost. -/
theorem Meaning.spends {p : Profile} (h : Meaning p) (s : State) : s.Spends (p.run s) (p.spent s) := by
  cases h
  case jpIf cc _ | jrIf cc _ | callIf cc _ | retIf cc =>
    exact .ite (s.cond cc) ⟨rfl, rfl, rfl, rfl, rfl, rfl⟩ ⟨rfl, rfl, rfl, rfl, rfl, rfl⟩
  case aluReg hop | aluMem hop | aluImm hop => exact hop.spends s _ _
  all_goals exact ⟨rfl, rfl, rfl, rfl, rfl, rfl⟩

/-- A meaning reaches the bus through its byte stores alone (R33, R68). -/
theorem Meaning.bus {p : Profile} (h : Meaning p) (s : State) : (p.run s).bus = s.bus.writes (p.stores s) := by
  cases h
  case jpIf cc _ | jrIf cc _ | callIf cc _ | retIf cc =>
    simp only [Machine.jpIf, Machine.jrIf, Machine.callIf, Machine.retIf]
    split <;> rfl
  case aluReg hop | aluMem hop | aluImm hop => exact hop.bus s _
  all_goals rfl

/-! ## Flags -/

/-- A flag byte follows a flag column, and keeps F[3:0] = 0 (R24, R25, R153). -/
def FlagColumn.Obeyed (k : FlagColumn) (old new : Byte) : Prop :=
  k.z.holds (old.getLsbD 7) (new.getLsbD 7) ∧ k.n.holds (old.getLsbD 6) (new.getLsbD 6) ∧
  k.h.holds (old.getLsbD 5) (new.getLsbD 5) ∧ k.c.holds (old.getLsbD 4) (new.getLsbD 4) ∧
  (old.extractLsb' 0 4 = 0 → new.extractLsb' 0 4 = 0)

/-- The column `----` keeps the whole byte. -/
theorem FlagColumn.Obeyed.keep {old new : Byte} (h : new = old) : fKKKK.Obeyed old new := by
  subst h
  exact ⟨rfl, rfl, rfl, rfl, id⟩

/-- An assembled flag byte follows a column when each flag does. -/
theorem FlagColumn.Obeyed.mkFlags {k : FlagColumn} {old : Byte} {z n h c : Bool} (hz : k.z.holds (flagZ old) z)
    (hn : k.n.holds (flagN old) n) (hh : k.h.holds (flagH old) h) (hc : k.c.holds (flagC old) c) :
    k.Obeyed old (Machine.mkFlags z n h c) := by
  obtain ⟨e7, e6, e5, e4, -⟩ := flagsAre_mkFlags z n h c
  unfold FlagColumn.Obeyed
  rw [e7, e6, e5, e4]
  exact ⟨hz, hn, hh, hc, fun _ => lowNibble_mkFlags z n h c⟩

/-- Writing a register operand leaves F alone. -/
@[simp] theorem Regs.set_f (r : Regs) (i : Reg8) (v : Byte) : (r.set i v).f = r.f := by cases i <;> rfl

/-- Writing a pair leaves F alone. -/
@[simp] theorem Regs.set16_f (r : Regs) (i : Reg16) (v : Word) : (r.set16 i v).f = r.f := by cases i <;> rfl

/-- A POP follows its column: AF takes four flags from the stack, the others none (R207). -/
theorem popFlags_obeyed (rr : StackPair) (r : Regs) (v : Word) : (popFlags rr).Obeyed r.f (r.setStack rr v).f := by
  cases rr
  case af => exact ⟨trivial, trivial, trivial, trivial, fun _ => lowNibble_maskFlags _⟩
  all_goals exact .keep rfl

/-- An accumulator operation follows its column (R215 to R222). -/
theorem AluMeaning.flags {op : State → Byte → State} {k : FlagColumn} (h : AluMeaning op k) (s : State) (x : Byte) :
    k.Obeyed s.regs.f (op s x).regs.f := by
  cases h
  case add | adc | sub | sbc | cp => exact .mkFlags trivial rfl trivial trivial
  case and | xor | or => exact .mkFlags trivial rfl rfl rfl

/-- A meaning follows its flag column. -/
theorem Meaning.flags {p : Profile} (h : Meaning p) (s : State) : p.flags.Obeyed s.regs.f (p.run s).regs.f := by
  cases h
  case aluReg hop | aluMem hop | aluImm hop => exact hop.flags s _
  case popPair rr => exact popFlags_obeyed rr s.dropTop.regs s.top16
  case jpIf cc _ | jrIf cc _ | callIf cc _ | retIf cc =>
    simp only [Machine.jpIf, Machine.jrIf, Machine.callIf, Machine.retIf]
    split <;> exact .keep rfl
  case ldRegReg | ldRegImm | ldRegMem | editReg => exact .keep (Regs.set_f _ _ _)
  case ldPairImm | incPair | decPair => exact .keep (Regs.set16_f _ _ _)
  case addHl | ldHlSpe | addSpe => exact .mkFlags rfl rfl trivial trivial
  case incReg | decReg | incMem | decMem => exact .mkFlags trivial rfl trivial rfl
  case daa => exact .mkFlags trivial rfl rfl trivial
  case cpl | scf => exact .mkFlags rfl rfl rfl rfl
  case ccf | rotAcc => exact .mkFlags rfl rfl rfl trivial
  case rotReg | rotMem => exact .mkFlags trivial rfl rfl trivial
  case swapReg | swapMem | bitReg | bitMem => exact .mkFlags trivial rfl rfl rfl
  all_goals exact .keep rfl

/-- Settles O41: every constructor is one of the shared meanings, and each of those follows its column. -/
theorem flagsFollowTheirColumns : Obligations.FlagsFollowTheirColumns := by
  intro i s
  obtain ⟨p, hp, hi⟩ := exec_meaning i
  exact ⟨p.run s, hi.exec_eq s, _, rfl, by rw [hi.flags]; exact hp.flags s⟩

/-- Settles O42: the stores of a meaning are the instruction's, and no meaning touches the bus otherwise. -/
theorem instructionsReachTheBusOnlyThroughTheirStores : Obligations.InstructionsReachTheBusOnlyThroughTheirStores := by
  intro i s
  obtain ⟨p, hp, hi⟩ := exec_meaning i
  have hs := hp.spends s
  exact ⟨p.run s, hi.exec_eq s, by rw [hi.stores]; exact hp.bus s, hs.quantum, hs.carry, hs.deviceCycles, hs.inputs⟩

end Sys2Proof.Machine
end

section
/-! SUPPORT. What a step can do, said once: a step of the CPU in terms of what the invariant speaks of, the end of a quantum, and the
three outcomes of a step of the machine. -/

namespace Sys2Proof.Machine

/-! ## A step of the CPU -/

/-- What every step of the CPU from `s` to `t` has in common, whatever it does: it spends `n` T-cycles, reaches the bus by clearing a
request and by byte stores, and keeps F[3:0] = 0. -/
structure State.CpuStepsTo (s t : State) (n : Nat) : Prop where
  spends : s.Spends t n
  bounds : 4 ≤ n ∧ n ≤ 24 ∧ n % 4 = 0
  bus    : ∃ i w, t.bus = ({ s.bus with ifl := i } : Bus).writes w
  flags  : s.regs.f.extractLsb' 0 4 = 0 → t.regs.f.extractLsb' 0 4 = 0

/-- Taking an interrupt is such a step (R333 to R335). -/
theorem State.takeInterrupt_stepsTo (s : State) (i : Interrupt) : s.CpuStepsTo (s.wake.takeInterrupt i) 20 := by
  rw [State.wake_eq]
  exact ⟨⟨rfl, rfl, rfl, rfl, rfl, rfl⟩, by decide, ⟨_, s.pushStores s.regs.pc, rfl⟩, id⟩

/-- Idling in standby is such a step (R337). -/
theorem State.idle_stepsTo (s : State) : s.CpuStepsTo (s.wake.tick 4) 4 := by
  rw [State.wake_eq]
  exact ⟨⟨rfl, rfl, rfl, rfl, rfl, rfl⟩, by decide, ⟨s.bus.ifl, [], rfl⟩, id⟩

/-- Running the fetched instruction is such a step (R26, R333). -/
theorem State.runInstr_stepsTo (s : State) : ∃ t n, s.wake.applyEi.runInstr = .next t ∧ s.CpuStepsTo t n := by
  obtain ⟨p, hp, hi⟩ := exec_meaning s.wake.applyEi.fetch.1
  rw [State.runInstr, hi.exec_eq]
  generalize s.wake.applyEi.fetch.2 = len
  rw [State.applyEi_eq, State.wake_eq]
  set u := State.advance _ len with hu
  obtain ⟨h1, h2, h3, h4, h5, h6⟩ := hp.spends u
  exact ⟨_, _, rfl, ⟨h1, h2, h3, h4, h5, h6⟩, hi.spent_bounds u, ⟨s.bus.ifl, p.stores u, hp.bus u⟩,
    (hp.flags u).2.2.2.2⟩

/-- Every step of the CPU has a next state, and is such a step. -/
theorem State.cpuStep_next (s : State) : ∃ t n, s.cpuStep = .next t ∧ s.CpuStepsTo t n := by
  rcases s.cpuStep_cases with ⟨i, -, h⟩ | ⟨-, -, h⟩ | ⟨-, -, h⟩ <;> rw [h]
  · exact ⟨_, _, rfl, s.takeInterrupt_stepsTo i⟩
  · exact ⟨_, _, rfl, s.idle_stepsTo⟩
  · exact s.runInstr_stepsTo

/-- A step of the CPU keeps the bus legal. -/
theorem State.CpuStepsTo.busOk {s t : State} {n : Nat} (h : s.CpuStepsTo t n) (hs : s.bus.Ok) : t.bus.Ok := by
  obtain ⟨i, w, e⟩ := h.bus
  rw [e]
  exact (hs.withIfl i).writes w

/-- Before a step of the CPU looks at anything it wakes up, so only the woken state matters (R333). -/
theorem State.cpuStep_eq_of_wake {s t : State} (h : s.wake = t.wake) : s.cpuStep = t.cpuStep := by
  unfold State.cpuStep
  rw [h]

/-- With IME clear or nothing pending, no interrupt is dispatched (R327, R333). -/
theorem State.dispatched_wake_none {s : State} (h : s.ime = false ∨ s.pending = 0) : s.wake.dispatched = none := by
  unfold State.dispatched
  rw [State.wake_ime]
  rcases h with h | h
  · rw [h]
    rfl
  · rw [State.nextInterrupt_none_of_pending_zero ((State.pending_eq_of_bus s.wake_bus).trans h)]
    exact ite_self none

/-! ## A step of the machine -/

/-- A step of the machine leaves a dead one alone, ends a used-up quantum, or is a step of the CPU and what follows it (R391,
R392). -/
theorem step_next_cases {s t : State} (h : step s = .next t) :
    (s.cpuAlive = false ∧ t = s) ∨
    (s.cpuAlive = true ∧ s.inQuantum = true ∧ ∃ u n, s.CpuStepsTo u n ∧ t = u.settle) ∨
    (s.cpuAlive = true ∧ s.inQuantum = false ∧ t = s.endQuantum) := by
  unfold step at h
  rcases s.machineStep_cases with ⟨ha, e⟩ | ⟨ha, hq, e⟩ | ⟨ha, hq, e⟩ <;> rw [e] at h
  · cases h
    exact .inl ⟨ha, rfl⟩
  · obtain ⟨u, n, hu, hs⟩ := s.cpuStep_next
    rw [hu] at h
    cases h
    exact .inr (.inl ⟨ha, hq, u, n, hs, rfl⟩)
  · cases h
    exact .inr (.inr ⟨ha, hq, rfl⟩)

/-- The budget is a comparison of integers (R392). -/
theorem State.inQuantum_iff (s : State) : s.inQuantum = true ↔ s.consumed + s.carry < s.quantum := decide_eq_true_iff

/-- What follows a step of the CPU is nothing, with the budget not used up and the CPU alive, or the end of the quantum (R392). -/
theorem State.settle_cases (s : State) :
    (s.cpuAlive = true ∧ s.consumed + s.carry < s.quantum ∧ s.settle = s) ∨ s.settle = s.endQuantum := by
  unfold State.settle
  split_ifs with h
  · rw [Bool.and_eq_true, State.inQuantum_iff] at h
    exact .inl ⟨h.1, h.2, rfl⟩
  · exact .inr rfl

/-- Settles O5: the woken state dispatches nothing and is not in standby, so the step runs what the three bytes decode to. -/
theorem stepRunsTheDecodedInstruction : Obligations.StepRunsTheDecodedInstruction := by
  intro s i rest ha hq hi hh hd
  have hawake : s.wake.halted = false := by
    rw [State.wake_halted]
    rcases hh with h | h
    · rw [h, Bool.false_and]
    · rw [decide_eq_false h, Bool.and_false]
  have hrun : s.cpuStep = s.wake.applyEi.runInstr := by
    rcases s.cpuStep_cases with ⟨j, h, -⟩ | ⟨-, h, -⟩ | ⟨-, -, h⟩
    · exact nomatch (State.dispatched_wake_none hi).symm.trans h
    · exact nomatch hawake.symm.trans h
    · exact h
  have hfetch : s.wake.applyEi.fetch = (i, 3 - rest.length) := by
    have hbus : s.wake.applyEi.bus = s.bus := by simp
    have hpc : s.wake.applyEi.regs.pc = s.regs.pc := by simp
    unfold State.fetch State.fetchBytes
    rw [hpc]
    simp only [State.read_eq_of_bus hbus]
    exact decodeWindow_of_decode hd
  rw [State.runInstr, hfetch, State.applyEi_eq, State.wake_eq] at hrun
  rw [State.wake_halted] at hawake
  have hstep : step s = settled s.cpuStep := by
    rcases s.machineStep_cases with ⟨h, -⟩ | ⟨-, -, h⟩ | ⟨-, h, -⟩
    · exact nomatch ha.symm.trans h
    · exact h
    · exact nomatch hq.symm.trans h
  rw [hstep, hrun, hawake]
  rfl

/-- Settles O9: an idle step is the third case of `step()`; a pending request clears `halted` before anything else is looked at. -/
theorem standbyIdlesAndWakes : Obligations.StandbyIdlesAndWakes := by
  intro s hh
  constructor
  · intro hp
    have hw : s.wake = s := if_neg (not_not_intro hp)
    rcases s.cpuStep_cases with ⟨j, h, -⟩ | ⟨-, -, h⟩ | ⟨-, h, -⟩
    · exact nomatch (State.dispatched_wake_none (.inr hp)).symm.trans h
    · rw [h, hw]
      rfl
    · rw [hw] at h
      exact nomatch hh.symm.trans h
  · intro hp _
    refine State.cpuStep_eq_of_wake ?_
    have hp' : State.pending { s with halted := false } ≠ 0 := hp
    rw [State.wake, if_pos hp, State.wake, if_pos hp']

/-- Settles O11: the first of the three outcomes of a step, and the only one from a dead machine. -/
theorem deadMachineIsFrozen : Obligations.DeadMachineIsFrozen := by
  refine ⟨fun s hs => if_pos hs, fun s t h ht => ?_⟩
  rcases step_next_cases h with ⟨-, rfl⟩ | ⟨ha, -⟩ | ⟨ha, -⟩
  · exact ht
  · exact ha
  · exact ha

/-! ## The invariant -/

/-- The end of a quantum restores the invariant where the overshoot is at most 20 (R391 to R393). -/
theorem State.endQuantum_inv {s : State} (hf : s.regs.f.extractLsb' 0 4 = 0) (hb : s.bus.Ok)
    (hq : 4 ≤ s.quantum ∧ s.quantum % 4 = 0) (hover : s.consumed + s.carry - s.quantum ≤ 20)
    (hmod : (s.consumed + s.carry) % 4 = 0) (hacc : s.cpuCycles = s.deviceCycles + s.consumed) : s.endQuantum.Inv where
  flags    := hf
  bus      := hb.endQuantum
  quantum  := hq
  carry    := by
    show (if s.cpuAlive = true then s.consumed + s.carry - s.quantum else 0) ≤ 20 ∧
      (if s.cpuAlive = true then s.consumed + s.carry - s.quantum else 0) % 4 = 0
    split_ifs <;> omega
  consumed := rfl
  budget   := .inl rfl
  dead     := fun _ => rfl
  account  := hacc

/-- A step of the CPU inside the budget, and what follows it, keep the invariant: at most 24 T-cycles are spent, so the budget is
exceeded by at most 20 (R49, R393). -/
theorem State.CpuStepsTo.settle_inv {s u : State} {n : Nat} (h : s.CpuStepsTo u n) (hs : s.Inv)
    (hq : s.consumed + s.carry < s.quantum) : u.settle.Inv := by
  obtain ⟨h1, h2, h3, h4, h5, -⟩ := h.spends
  have hn := h.bounds
  have hquantum := hs.quantum
  have hcarry := hs.carry
  have hconsumed := hs.consumed
  have hacc : u.cpuCycles = u.deviceCycles + u.consumed := by
    rw [h1, h2, h5, hs.account, Nat.add_assoc]
  rcases u.settle_cases with ⟨ha, hlt, e⟩ | e <;> rw [e]
  · exact {
      flags    := h.flags hs.flags
      bus      := h.busOk hs.bus
      quantum  := by rw [h3]; exact hquantum
      carry    := by rw [h4]; exact hcarry
      consumed := by rw [h1]; omega
      budget   := .inr hlt
      dead     := fun hd => nomatch ha.symm.trans hd
      account  := hacc }
  · exact State.endQuantum_inv (h.flags hs.flags) (h.busOk hs.bus) (by rw [h3]; exact hquantum)
      (by rw [h1, h3, h4]; omega) (by rw [h1, h4]; omega) hacc

/-- Settles O59: each of the three outcomes of a step keeps the invariant. -/
theorem invariantIsKeptByEveryStep : Obligations.InvariantIsKeptByEveryStep := by
  intro s t hs h
  rcases step_next_cases h with ⟨-, rfl⟩ | ⟨-, hq, u, n, hu, rfl⟩ | ⟨-, hq, rfl⟩
  · exact hs
  · exact hu.settle_inv hs (s.inQuantum_iff.1 hq)
  · have hcarry := hs.carry
    have hconsumed := hs.consumed
    have hzero : s.consumed = 0 := by
      rcases hs.budget with h0 | hlt
      · exact h0
      · exact nomatch hq.symm.trans (s.inQuantum_iff.2 hlt)
    exact State.endQuantum_inv hs.flags hs.bus hs.quantum (by omega) (by omega) hs.account

end Sys2Proof.Machine
end

section
/-! SUPPORT. The machine `reset` gives: its cartridge and its column of R52, and why it meets the invariant. -/

namespace Sys2Proof.Machine

/-! ## The cartridge -/

/-- Cutting a canonical list at `n` leaves it canonical inside both bounds. -/
theorem cellsFrom_filter_min {w bound n : Nat} : ∀ {m : Store w} {lo : Nat}, cellsFrom bound lo m = true →
    cellsFrom (min bound n) lo (m.filter fun kv => decide (kv.1 < n)) = true
  | [], _, _ => rfl
  | (k, v) :: m, lo, h => by
    simp only [cellsFrom, Bool.and_eq_true, decide_eq_true_eq] at h
    obtain ⟨⟨⟨hlo, hb⟩, hv⟩, hm⟩ := h
    by_cases hk : k < n
    · rw [List.filter_cons_of_pos (by simpa using hk)]
      simp only [cellsFrom, Bool.and_eq_true, decide_eq_true_eq]
      exact ⟨⟨⟨hlo, lt_min hb hk⟩, hv⟩, cellsFrom_filter_min hm⟩
    · rw [List.filter_cons_of_neg (by simpa using hk)]
      exact cellsFrom_mono (cellsFrom_filter_min hm) (by omega)

/-- A canonical byte string is a canonical store. -/
theorem Image.wf_cells {i : Image} (h : i.wf = true) : cellsFrom i.len 0 i.cells = true := by
  rw [← imageCellsFrom_eq_cellsFrom]
  exact h

/-- The first `n` bytes of a canonical byte string are a canonical array of `n` bytes. -/
theorem Image.wf_upTo {i : Image} (h : i.wf = true) (n : Nat) : Memory.wf n (i.upTo n) = true :=
  cellsFrom_filter (Image.wf_cells h)

/-- A RAM-size code that loads gives one of the counts of R102. -/
theorem ramBankCount_mem {code : Byte} {n : Nat} (h : ramBankCount code = some n) : n ∈ [0, 1, 4, 8, 16] := by
  unfold ramBankCount at h
  split at h <;> cases h <;> decide

/-- A ROM-size code that loads gives one of the counts of R101. -/
theorem romBankCount_mem {code : Byte} {n : Nat} (h : romBankCount code = some n) :
    n ∈ [2, 4, 8, 16, 32, 64, 128, 256, 512] := by
  obtain ⟨hc, rfl⟩ := romBankCount_eq_some.1 h
  generalize code.toNat = c at hc
  interval_cases c <;> decide

/-- External RAM at reset is a canonical array of its size (R108). -/
theorem wf_loadEram {cfg : Cfg} (h : cfg.battery.wf = true) (k : CartKind) (banks : Nat) :
    Memory.wf (banks * 0x2000) (loadEram cfg k banks) = true := by
  unfold loadEram
  split_ifs
  · exact Image.wf_upTo h _
  · rfl

/-- The cartridge of a well-formed configuration is legal (R47, R48, R105, R108). -/
theorem buildCart_ok {cfg : Cfg} {k : CartKind} {nr na : Nat} {codeRom codeRam : Byte} (hrom : cfg.rom.wf = true)
    (hbat : cfg.battery.wf = true) (hnr : romBankCount codeRom = some nr) (hna : loadRamBanks k codeRam = some na) :
    (buildCart cfg k nr na).Ok where
  romBanks := romBankCount_mem hnr
  ramBanks := by
    obtain ⟨m, hm, -, rfl⟩ := loadRamBanks_eq_some.1 hna
    show (if k.ram = true then m else 0) ∈ _
    split_ifs
    · exact ramBankCount_mem hm
    · decide
  romLen   := min_le_right _ _
  rom      := cellsFrom_filter_min (Image.wf_cells hrom)
  eram     := wf_loadEram hbat k na
  mbc1     := fun _ => (by decide : 1 ≤ (1#8).toNat ∧ (1#8).toNat ≤ 0x1F)
  mbc3     := fun _ => (by decide : 1 ≤ (1#8).toNat ∧ (1#8).toNat ≤ 0x7F)
  mbc5     := fun _ => (by decide : (0#2).toNat ≤ 1)

/-- A ROM byte of the cartridge built: the image byte, or 0xFF beyond the image (R105). -/
theorem buildCart_romByte (cfg : Cfg) (k : CartKind) {nr bank o : Nat} (na : Nat) (hb : bank < nr) (ho : o < 0x4000) :
    (buildCart cfg k nr na).romByte bank o =
      if bank * 0x4000 + o < cfg.rom.len then cellGet cfg.rom.cells (bank * 0x4000 + o) else 0xFF := by
  have hi : bank * 0x4000 + o < nr * 0x4000 := by omega
  show (if bank * 0x4000 + o < min cfg.rom.len (nr * 0x4000) then
    cellGet (cfg.rom.upTo (nr * 0x4000)) (bank * 0x4000 + o) else 0xFF) = _
  rw [Image.cellGet_upTo hi]
  exact if_congr ⟨fun h => (lt_min_iff.1 h).1, fun h => lt_min h hi⟩ rfl rfl

/-- A byte of external RAM at reset: the battery image's where the image is taken, else 0 (R108). -/
theorem cellGet_loadEram (cfg : Cfg) (k : CartKind) {banks j : Nat} (hj : j < banks * 0x2000) :
    cellGet (loadEram cfg k banks) j =
      if k.battery = true ∧
          (cfg.battery.len = banks * 0x2000 ∨ (k.rtc = true ∧ cfg.battery.len = banks * 0x2000 + 5)) then
        cellGet cfg.battery.cells j
      else 0 := by
  unfold loadEram
  rw [apply_ite (cellGet · j)]
  exact if_congr Iff.rfl (Image.cellGet_upTo hj) rfl

/-! ## The column of R52 -/

/-- With a boot ROM the machine has the left column of R52. -/
theorem powerOn_boot {cfg : Cfg} (h : cfg.bootRom.len = 256) (cart : Cart) :
    powerOn cfg cart =
      { State.reset with
        regs    := Regs.cold
        bus     := { Bus.cold with contention := cfg.contention, boot := some (cfg.bootRom.upTo 256), cart := cart }
        quantum := cfg.quantum } :=
  if_pos h

/-- Without one it has the right column. -/
theorem powerOn_noBoot {cfg : Cfg} (h : cfg.bootRom.len ≠ 256) (cart : Cart) :
    powerOn cfg cart =
      { State.reset with
        bus     := { Bus.reset with contention := cfg.contention, cart := cart }
        quantum := cfg.quantum } :=
  if_neg h

/-- Either way the machine has the cartridge given. -/
@[simp] theorem powerOn_cart (cfg : Cfg) (cart : Cart) : (powerOn cfg cart).bus.cart = cart := by
  unfold powerOn
  split_ifs <;> rfl

/-- The display controller of either column is legal. -/
theorem Ppu.ok_reset : Ppu.reset.Ok := ⟨by decide, by decide, by decide, by decide, by decide, rfl, rfl⟩

/-- The display controller of the left column is legal: it is off. -/
theorem Ppu.ok_cold : Ppu.cold.Ok := ⟨by decide, by decide, by decide, by decide, by decide, rfl, rfl⟩

/-- With every count at 0 the scheduler's part of the invariant asks for a legal quantum only. -/
theorem State.inv_of_start {s : State} (hf : s.regs.f.extractLsb' 0 4 = 0) (hb : s.bus.Ok)
    (hq : 4 ≤ s.quantum ∧ s.quantum % 4 = 0) (h0 : s.consumed = 0) (hc : s.carry = 0)
    (hacc : s.cpuCycles = s.deviceCycles) : s.Inv where
  flags    := hf
  bus      := hb
  quantum  := hq
  carry    := by omega
  consumed := by omega
  budget   := .inl h0
  dead     := fun _ => h0
  account  := by omega

/-- A machine just switched on, with a legal cartridge and boot ROM, meets the invariant. -/
theorem powerOn_inv {cfg : Cfg} {cart : Cart} (hq : 4 ≤ cfg.quantum ∧ cfg.quantum % 4 = 0)
    (hboot : cfg.bootRom.wf = true) (hc : cart.Ok) : (powerOn cfg cart).Inv := by
  by_cases h : cfg.bootRom.len = 256
  · rw [powerOn_boot h]
    have hm : ∀ m, some (cfg.bootRom.upTo 256) = some m → Memory.wf 0x100 m = true :=
      fun m e => Option.some.inj e ▸ Image.wf_upTo hboot _
    exact State.inv_of_start (by decide : Regs.cold.f.extractLsb' 0 4 = 0)
      ⟨hc, Ppu.ok_cold, hm, rfl, rfl, rfl, rfl, rfl, rfl⟩ hq rfl rfl rfl
  · rw [powerOn_noBoot h]
    exact State.inv_of_start (by decide : Regs.reset.f.extractLsb' 0 4 = 0)
      ⟨hc, Ppu.ok_reset, nofun, rfl, rfl, rfl, rfl, rfl, rfl⟩ hq rfl rfl rfl

/-- What a well-formed configuration gives (R7, R390). -/
theorem Cfg.wf_iff (cfg : Cfg) :
    cfg.wf = true ↔ (0 < cfg.quantum ∧ cfg.quantum % 4 = 0) ∧ cfg.bootOk = true ∧ cfg.romOk = true ∧
      cfg.rom.wf = true ∧ cfg.bootRom.wf = true ∧ cfg.battery.wf = true := by
  simp only [Cfg.wf, Cfg.quantumOk, Bool.and_eq_true, decide_eq_true_eq, and_assoc]

/-- A well-formed configuration that loads gives a machine that meets the invariant. -/
theorem reset_inv {cfg : Cfg} {s : State} (hwf : cfg.wf = true) (h : reset cfg = .ok s) : s.Inv := by
  obtain ⟨hq, -, -, hrom, hboot, hbat⟩ := (Cfg.wf_iff cfg).1 hwf
  obtain ⟨-, -, k, nr, na, -, -, hnr, hna, rfl⟩ := reset_ok_iff.1 h
  exact powerOn_inv (by omega) hboot (buildCart_ok hrom hbat hnr hna)

/-- Settles O60: the default configuration is a well-formed one that loads. -/
theorem invariantHoldsAfterReset : Obligations.InvariantHoldsAfterReset :=
  have hd := witness_InvariantHoldsAfterReset
  ⟨reset_inv hd.1 hd.2, hd.2, fun _ _ => reset_inv⟩

/-! ## Which configurations load, and what they give -/

/-- `reset` gives a machine exactly where none of R421's failures holds. -/
theorem exists_reset_ok_iff (cfg : Cfg) :
    (∃ s, reset cfg = .ok s) ↔
      0x150 ≤ cfg.rom.len ∧ (cfg.bootRom.len = 0 ∨ cfg.bootRom.len = 256) ∧
      ∃ k n, cartKind (cellGet cfg.rom.cells 0x147) = some k ∧ k.variant ∈ cfg.supportedMbc ∧
        (cellGet cfg.rom.cells 0x148).toNat ≤ 8 ∧ ramBankCount (cellGet cfg.rom.cells 0x149) = some n ∧
        (k.ram = false ∨ n ≤ k.variant.ramLimit) := by
  simp only [reset_ok_iff, romBankCount_eq_some, loadRamBanks_eq_some, Cfg.romOk, Cfg.bootOk, Bool.or_eq_true,
    decide_eq_true_eq, Image.byte]
  constructor
  · rintro ⟨_, hrom, hboot, k, _, _, hk, hv, ⟨hcode, -⟩, ⟨n, hn, hlim, -⟩, -⟩
    exact ⟨hrom, hboot, k, n, hk, hv, hcode, hn, hlim⟩
  · rintro ⟨hrom, hboot, k, n, hk, hv, hcode, hn, hlim⟩
    exact ⟨_, hrom, hboot, k, _, _, hk, hv, ⟨hcode, rfl⟩, ⟨n, hn, hlim, rfl⟩, rfl⟩

/-- What the two columns of R52 share. -/
theorem powerOn_shared (cfg : Cfg) (cart : Cart) (s : State) (h : s = powerOn cfg cart) :
    s =
      { regs := s.regs, ime := false, eiPending := false, halted := false, cpuAlive := true
        quantum := cfg.quantum, consumed := 0, carry := 0, cpuCycles := 0, deviceCycles := 0, inputs := []
        bus :=
          { s.bus with
            contention := cfg.contention, input := Buttons.released
            vram := [], wram := [], oam := [], unused := [], ioPlain := [], hram := []
            ie := 0, selAction := false, selDir := false, serial := ⟨0, false, false, 0⟩, joyPrev := 0xF
            timer := { s.bus.timer with tima := 0, tma := 0, tac := 0 }
            ppu :=
              { s.bus.ppu with
                statEnable := 0, scy := 0, scx := 0, ly := 0, lyc := 0, wy := 0, wx := 0, dot := 0, windowLine := 0
                fbBack := [], fbFront := [], frames := 0 } } } := by
  subst h
  unfold powerOn
  split_ifs <;> rfl

/-- Settles O57: a machine that loads is `powerOn` of the cartridge the header describes. -/
theorem resetSucceedsExactlyWithoutLoadFailures : Obligations.ResetSucceedsExactlyWithoutLoadFailures := by
  refine fun cfg => ⟨exists_reset_ok_iff cfg, fun s hs => ?_⟩
  obtain ⟨-, -, k, nr, na, hk, -, hnr, hna, hs⟩ := reset_ok_iff.1 hs
  obtain ⟨n, hn, -, rfl⟩ := loadRamBanks_eq_some.1 hna
  obtain ⟨-, rfl⟩ := romBankCount_eq_some.1 hnr
  have hcart : s.bus.cart = _ := (congrArg (·.bus.cart) hs).trans (powerOn_cart cfg _)
  refine ⟨⟨k, n, hk, hn, ?_⟩, ?_, ?_, ?_, powerOn_shared cfg _ s hs, fun hb => ?_, fun hb => ?_⟩
  · rw [hcart]
    exact ⟨rfl, rfl, rfl, rfl, rfl, rfl, rfl, rfl, rfl, rfl, rfl⟩
  · rw [hcart]
    exact fun bank o hb ho => buildCart_romByte cfg k _ hb ho
  · rw [hcart]
    exact fun j hj => cellGet_loadEram cfg k hj
  · rw [hcart]
    rfl
  · rw [powerOn_boot hb] at hs
    subst hs
    exact ⟨rfl, rfl, rfl, rfl, rfl, rfl, rfl, rfl, rfl, rfl, rfl, _, rfl, fun j hj => Image.cellGet_upTo hj⟩
  · rw [powerOn_noBoot (by omega)] at hs
    subst hs
    exact ⟨rfl, rfl, rfl, rfl, rfl, rfl, rfl, rfl, rfl, rfl, rfl, rfl⟩

end Sys2Proof.Machine
end

section
/-! SUPPORT. ROM space through the router: the boot overlay and the cartridge behind it (R62, R63, R86). -/

namespace Sys2Proof.Machine

/-- ROM space (R60). -/
theorem regionOf_rom {a : Word} (h : a.toNat ≤ 0x7FFF) : regionOf a = .rom a.toNat := if_pos h

/-- The overlay answers its 256 addresses while it is present and on (R86). -/
theorem Bus.read_overlay {b : Bus} {m : Memory} {a : Word} (hb : b.boot = some m) (hoff : b.bootOff = false)
    (ha : a.toNat ≤ 0xFF) : b.read a = cellGet m a.toNat := by
  have ho : b.overlay = some m := by rw [Bus.overlay, hoff, hb]; rfl
  rw [Bus.read, regionOf_rom (by omega), Bus.readRegion, ho]
  exact if_pos ha

/-- Every other read of ROM space goes to the cartridge (R62, R86). -/
theorem Bus.read_rom {b : Bus} {a : Word} (ha : a.toNat ≤ 0x7FFF)
    (h : b.boot = none ∨ b.bootOff = true ∨ 0xFF < a.toNat) : b.read a = b.cart.readRom a.toNat := by
  rw [Bus.read, regionOf_rom ha, Bus.readRegion]
  split
  · next m ho =>
    have hhi : ¬ a.toNat ≤ 0xFF := by
      rcases h with h | h | h
      · rw [Bus.overlay, h, ite_self] at ho
        cases ho
      · rw [Bus.overlay, h] at ho
        cases ho
      · exact Nat.not_le.2 h
    exact if_neg hhi
  · rfl

/-- No write turns the overlay on again (R44, R86). -/
theorem Bus.write_bootOff {b : Bus} (h : b.bootOff = true) (a : Word) (v : Byte) : (b.write a v).bootOff = true := by
  unfold Bus.write Bus.writeRegion
  cases regionOf a with
  | vram o | oam o => simp only; split <;> exact h
  | io o =>
    simp only
    cases ioRegOf o <;> simp only [Bus.ioWrite]
    case lcdc => rw [Bus.lcdcWrite_frame]; exact h
    case dma => rw [Bus.oamDma_frame]; exact h
    case bootOff => rw [h, Bool.true_or]
    all_goals exact h
  | _ => exact h

/-- Settles O47: ROM space has one reader per address and one writer, and what no write changes is in `Bus.write_static`. -/
theorem overlayAndRomAreNeverWritten : Obligations.OverlayAndRomAreNeverWritten := by
  refine ⟨fun b m a => Bus.read_overlay, fun b a => Bus.read_rom, fun b a v => Bus.write_rom, fun b v => ?_,
    fun b a v => ?_⟩
  · exact Bus.write_io (o := 0x50) (by decide)
  · obtain ⟨-, -, hboot, -, hrom, hlen, -⟩ := Bus.write_static b a v
    exact ⟨hboot, hrom, hlen, fun h => Bus.write_bootOff h a v⟩

end Sys2Proof.Machine
end

section
/-! SUPPORT. The scanline renderer (R378 to R381): what a painted row holds, and each pixel's layer, sprite and shade. -/

namespace Sys2Proof.Machine

/-! ## The row -/

/-- Painting columns of scanline `y` leaves every index alone that is none of theirs. -/
theorem cellGet_paintFold_of_ne (b : Bus) (y k : Nat) : ∀ (l : List Nat) (fb : Store 2), (∀ x ∈ l, k ≠ y * 160 + x) →
    cellGet (l.foldl (fun fb x => cellSet fb (y * 160 + x) (b.pixelShade y x)) fb) k = cellGet fb k
  | [], _, _ => rfl
  | x :: l, fb, h => by
    rw [List.foldl_cons, cellGet_paintFold_of_ne b y k l _ fun j hj => h j (List.mem_cons_of_mem _ hj),
      cellGet_cellSet_ne (h x List.mem_cons_self)]

/-- Painting a column gives its pixel its shade (R378). -/
theorem cellGet_paintFold_of_mem (b : Bus) {y x : Nat} (hy : y < 144) : ∀ (l : List Nat) (fb : Store 2), x ∈ l →
    (∀ j ∈ l, j < 160) → Store.wf (144 * 160) fb = true →
    cellGet (l.foldl (fun fb x => cellSet fb (y * 160 + x) (b.pixelShade y x)) fb) (y * 160 + x) = b.pixelShade y x
  | [], _, hx, _, _ => absurd hx List.not_mem_nil
  | j :: l, fb, hx, hl, hw => by
    have hj : y * 160 + j < 144 * 160 := by
      have := hl j List.mem_cons_self
      omega
    rw [List.foldl_cons]
    by_cases hxl : x ∈ l
    · exact cellGet_paintFold_of_mem b hy l _ hxl (fun i hi => hl i (List.mem_cons_of_mem _ hi)) (wf_cellSet hw hj)
    · obtain rfl : x = j := (List.mem_cons.1 hx).resolve_right hxl
      have hne : ∀ i ∈ l, y * 160 + x ≠ y * 160 + i := fun i hi e => hxl (Nat.add_left_cancel e ▸ hi)
      rw [cellGet_paintFold_of_ne b y _ l _ hne]
      exact cellGet_cellSet_same hw

/-- The back framebuffer after `render_line(y)` is the painted one. -/
theorem Bus.renderLine_fbBack (b : Bus) (y : Nat) : (b.renderLine y).ppu.fbBack = b.paintRow y := by
  unfold Bus.renderLine
  simp only

/-- `render_line(y)` gives the 160 pixels of row `y` their shades (R378). -/
theorem Bus.renderLine_row {b : Bus} {y x : Nat} (hw : Store.wf (144 * 160) b.ppu.fbBack = true) (hy : y < 144)
    (hx : x < 160) : cellGet (b.renderLine y).ppu.fbBack (160 * y + x) = b.pixelShade y x := by
  rw [Nat.mul_comm 160 y, Bus.renderLine_fbBack, Bus.paintRow]
  exact cellGet_paintFold_of_mem b hy _ _ (List.mem_range.2 hx) (fun _ => List.mem_range.1) hw

/-- `render_line(y)` leaves every other pixel alone (R378). -/
theorem Bus.renderLine_otherRows (b : Bus) {y k : Nat} (hk : k < 160 * y ∨ 160 * y + 160 ≤ k) :
    cellGet (b.renderLine y).ppu.fbBack k = cellGet b.ppu.fbBack k := by
  rw [Bus.renderLine_fbBack, Bus.paintRow]
  refine cellGet_paintFold_of_ne b y k _ _ fun x hx => ?_
  have := List.mem_range.1 hx
  omega

/-! ## The layer -/

/-- When the window is drawn on a scanline (R378). -/
theorem Bus.windowShown_iff (b : Bus) (y : Nat) :
    b.windowShown y = true ↔
      b.ppu.lcdc.getLsbD 0 = true ∧ b.ppu.lcdc.getLsbD 5 = true ∧ b.ppu.wy.toNat ≤ y ∧ b.ppu.wx.toNat ≤ 166 := by
  simp only [Bus.windowShown, bitOf, Bool.and_eq_true, decide_eq_true_eq, and_assoc]

/-- `render_line(y)` writes the back framebuffer and `window_line`, which it advances where the window is drawn (R378). -/
theorem Bus.renderLine_frame (b : Bus) (y : Nat) :
    b.renderLine y =
      { b with
        ppu :=
          { b.ppu with
            fbBack := (b.renderLine y).ppu.fbBack
            windowLine := b.ppu.windowLine +
              (if b.ppu.lcdc.getLsbD 0 = true ∧ b.ppu.lcdc.getLsbD 5 = true ∧ b.ppu.wy.toNat ≤ y ∧
                  b.ppu.wx.toNat ≤ 166 then 1 else 0) } } := by
  have hw : (if b.windowShown y then b.ppu.windowLine + 1 else b.ppu.windowLine) =
      b.ppu.windowLine +
        (if b.ppu.lcdc.getLsbD 0 = true ∧ b.ppu.lcdc.getLsbD 5 = true ∧ b.ppu.wy.toNat ≤ y ∧
          b.ppu.wx.toNat ≤ 166 then 1 else 0) := by
    simp only [← b.windowShown_iff y]
    split_ifs <;> rfl
  rw [← hw, Bus.renderLine_fbBack, Bus.renderLine]

/-- A tile's place in VRAM, by unsigned or signed tile number (R379). -/
theorem Bus.tileBase_eq (b : Bus) (t : Byte) :
    (b.tileBase t : Int) = if b.ppu.lcdc.getLsbD 4 = true then 16 * (t.toNat : Int) else 4096 + 16 * t.toInt := by
  have hlow : -128 ≤ t.toInt := BitVec.le_toInt t
  unfold Bus.tileBase bitOf
  split_ifs <;> omega

/-- A tile's pixel is two bits of the two bytes of its row (R379). -/
theorem Bus.tilePixel_spec (b : Bus) (map px py : Nat) : ∃ (t : Byte) (row : Nat),
    t = cellGet b.vram (map + 32 * (py / 8) + px / 8) ∧
    (row : Int) =
      (if b.ppu.lcdc.getLsbD 4 = true then 16 * (t.toNat : Int) else 4096 + 16 * t.toInt) + 2 * (py % 8 : Nat) ∧
    (b.tilePixel map px py).toNat =
      2 * bitNat ((cellGet b.vram (row + 1)).getLsbD (7 - px % 8)) +
        bitNat ((cellGet b.vram row).getLsbD (7 - px % 8)) := by
  rw [Nat.mul_comm 32]
  refine ⟨_, b.tileBase _ + py % 8 * 2, rfl, ?_, planePixel_toNat _ _ _⟩
  rw [← b.tileBase_eq, Nat.mul_comm _ 2]
  rfl

/-- The layer's colour index: 0, the window's pixel, or the background's (R378). -/
theorem Bus.layerIndex_eq (b : Bus) (y x : Nat) :
    b.layerIndex y x =
      (if b.ppu.lcdc.getLsbD 0 = false then 0
       else if b.ppu.lcdc.getLsbD 5 = true ∧ b.ppu.wy.toNat ≤ y ∧ b.ppu.wx.toNat ≤ 166 ∧ b.ppu.wx.toNat ≤ x + 7 then
         b.tilePixel (if b.ppu.lcdc.getLsbD 6 = true then 0x1C00 else 0x1800) (x + 7 - b.ppu.wx.toNat) b.ppu.windowLine
       else
         b.tilePixel (if b.ppu.lcdc.getLsbD 3 = true then 0x1C00 else 0x1800) ((b.ppu.scx.toNat + x) % 256)
           ((b.ppu.scy.toNat + y) % 256)) := by
  unfold Bus.layerIndex
  simp only [b.windowShown_iff]
  cases h0 : b.ppu.lcdc.getLsbD 0
  · simp only [bitOf, h0, Bool.false_eq_true, false_and, if_false, if_true]
  · simp only [bitOf, h0, true_and, and_assoc, if_true, Bool.true_eq_false, if_false]
    rfl

/-- The layer's shade is BGP's of its colour index, or 0 with `LCDC[0] = 0` (R43, R378). -/
theorem Bus.layerShade_toNat (b : Bus) (y x : Nat) :
    (b.layerShade y x).toNat =
      (if b.ppu.lcdc.getLsbD 0 = false then 0 else b.ppu.bgp.toNat / 4 ^ (b.layerIndex y x).toNat % 4) := by
  unfold Bus.layerShade bitOf
  cases b.ppu.lcdc.getLsbD 0
  · rfl
  · exact paletteShade_toNat _ _

/-! ## Sprites -/

/-- The rows a sprite covers, as the search for the sprites of a scanline tests it (R380). -/
theorem Bus.mem_spritesOn (b : Bus) (y i : Nat) {covers : Nat → Bool}
    (hc : ∀ j, covers j = true ↔
      (cellGet b.oam (4 * j)).toNat ≤ y + 16 ∧ y + 16 < (cellGet b.oam (4 * j)).toNat + b.spriteHeight) :
    i ∈ b.spritesOn y ↔ i < 40 ∧ covers i = true ∧ ((List.range i).filter covers).length < 10 := by
  have e : covers = fun i => decide ((b.oamByte (4 * i)).toNat ≤ y + 16) &&
      decide (y + 16 < (b.oamByte (4 * i)).toNat + b.spriteHeight) := by
    funext j
    rw [Bool.eq_iff_iff, hc j, Bool.and_eq_true, decide_eq_true_eq, decide_eq_true_eq]
    rfl
  rw [e]
  exact mem_take_filter_range _ 10 i 40

/-- Clearing bit 0 of a tile number is subtracting its parity. -/
theorem and_0xFE_toNat (v : Byte) : (v &&& 0xFE).toNat = v.toNat - v.toNat % 2 := by
  revert v
  decide

/-- A sprite's tile number: of the upper tile of its pair where sprites are 16 rows high (R380). -/
theorem spriteTile_toNat (h : Nat) (v : Byte) :
    (if h = 16 then v &&& 0xFE else v).toNat = v.toNat - (if h = 16 then v.toNat % 2 else 0) := by
  split_ifs
  · exact and_0xFE_toNat v
  · rfl

/-- A sprite shows in its eight columns, where its colour index is not 0 (R380). -/
theorem spriteGuard_eq (sx x : Nat) (c : BitVec 2) (p : SpritePixel) :
    (if x + 8 < sx ∨ sx + 7 < x + 8 then none else if c = 0 then none else some p) =
      if sx ≤ x + 8 ∧ x + 8 ≤ sx + 7 ∧ c ≠ 0 then some p else none := by
  by_cases hx : x + 8 < sx ∨ sx + 7 < x + 8
  · rw [if_pos hx, if_neg fun h => by omega]
  · have hx' : sx ≤ x + 8 ∧ x + 8 ≤ sx + 7 := by omega
    rw [if_neg hx]
    by_cases hc : c = 0
    · rw [if_pos hc, if_neg fun h => h.2.2 hc]
    · rw [if_neg hc, if_pos ⟨hx'.1, hx'.2, hc⟩]

/-- What a sprite shows at a column: the two bits of its own row, flipped as its attributes say, where they are not both 0
(R380). -/
theorem Bus.spritePixel_spec (b : Bus) {y i : Nat} (x : Nat) (hy : (cellGet b.oam (4 * i)).toNat ≤ y + 16) :
    ∃ (sx col top row t bit : Nat) (attr : Byte) (c : BitVec 2),
      sx = (cellGet b.oam (4 * i + 1)).toNat ∧ attr = cellGet b.oam (4 * i + 3) ∧ col = x + 8 - sx ∧
      top + (cellGet b.oam (4 * i)).toNat = y + 16 ∧
      row = (if attr.getLsbD 6 = true then b.spriteHeight - 1 - top else top) ∧
      t = (cellGet b.oam (4 * i + 2)).toNat -
        (if b.spriteHeight = 16 then (cellGet b.oam (4 * i + 2)).toNat % 2 else 0) ∧
      bit = (if attr.getLsbD 5 = true then col else 7 - col) ∧
      c.toNat =
        2 * bitNat ((cellGet b.vram (16 * t + 2 * row + 1)).getLsbD bit) +
          bitNat ((cellGet b.vram (16 * t + 2 * row)).getLsbD bit) ∧
      b.spritePixel y x i =
        (if sx ≤ x + 8 ∧ x + 8 ≤ sx + 7 ∧ c ≠ 0 then some ⟨sx, c, attr⟩ else none) := by
  refine ⟨_, _, y + 16 - (cellGet b.oam (4 * i)).toNat, _, _, _, _, _, rfl, rfl, rfl, by omega, rfl, rfl, rfl,
    planePixel_toNat _ _ _, ?_⟩
  rw [← spriteTile_toNat, Nat.mul_comm 16, Nat.mul_comm 2]
  exact spriteGuard_eq _ _ _ _

/-! ## The pixel -/

/-- With no sprite the pixel is the layer's (R378, R380). -/
theorem Bus.pixelShade_layer {b : Bus} {y x : Nat}
    (h : b.ppu.lcdc.getLsbD 1 = false ∨ ∀ i, i ∈ b.spritesOn y → b.spritePixel y x i = none) :
    b.pixelShade y x = b.layerShade y x := by
  have hnone : (if bitOf b.ppu.lcdc 1 then b.bestSprite y x else none) = none := by
    rcases h with h | h
    · exact if_neg (by rw [bitOf, h]; decide)
    · rw [Bus.bestSprite, betterSprite_foldl_none _ _ h, ite_self]
  unfold Bus.pixelShade
  rw [hnone]

/-- With a winning sprite the pixel is the sprite's, unless the sprite is behind a layer that shows (R380). -/
theorem Bus.pixelShade_sprite {b : Bus} {y x i : Nat} {p : SpritePixel} (hon : b.ppu.lcdc.getLsbD 1 = true)
    (hi : i ∈ b.spritesOn y) (hp : b.spritePixel y x i = some p)
    (hmin : ∀ (j : Nat) (q : SpritePixel), j ∈ b.spritesOn y → b.spritePixel y x j = some q →
      p.sx < q.sx ∨ (p.sx = q.sx ∧ i ≤ j)) :
    (b.pixelShade y x).toNat =
      (if p.attr.getLsbD 7 = true ∧ b.layerIndex y x ≠ 0 then (b.layerShade y x).toNat
       else (if p.attr.getLsbD 4 = true then b.ppu.obp1 else b.ppu.obp0).toNat / 4 ^ p.color.toNat % 4) := by
  have hbest : (if bitOf b.ppu.lcdc 1 then b.bestSprite y x else none) = some p := by
    rw [bitOf, hon, if_pos rfl]
    exact betterSprite_foldl_best _ hp _ _ (b.spritesOn_sorted y) hi hmin nofun
  unfold Bus.pixelShade
  rw [hbest]
  exact (apply_ite BitVec.toNat _ _ _).trans (if_congr Iff.rfl rfl (paletteShade_toNat _ _))

/-- Settles O55: the row, the layer, the sprites and the winner, each by its lemma. -/
theorem renderLineWritesOneRow : Obligations.RenderLineWritesOneRow := by
  refine ⟨fun b y hw hy => ⟨fun x => Bus.renderLine_row hw hy, fun k => b.renderLine_otherRows, b.renderLine_frame y⟩,
    Bus.tilePixel_spec, fun b y x => ⟨b.layerIndex_eq y x, b.layerShade_toNat y x⟩, fun b y i h covers hh hc => ?_,
    fun b y x => ⟨Bus.pixelShade_layer, fun i p => Bus.pixelShade_sprite⟩⟩
  obtain rfl : h = b.spriteHeight := hh
  have hmem := b.mem_spritesOn y i hc
  exact ⟨hmem, fun hi x => b.spritePixel_spec x ((hc i).1 (hmem.1 hi).2.1).1⟩

end Sys2Proof.Machine
end

section
/-! SUPPORT. The display controller's clock (R370 to R376): how crossings of mode boundaries compose, and what a frame is made of. -/

namespace Sys2Proof.Machine

/-! ## One crossing -/

/-- The display with `n` T-cycles added to `dot`. -/
def Bus.addDots (n : Nat) (b : Bus) : Bus := { b with ppu := { b.ppu with dot := b.ppu.dot + n } }

/-- The display with the width of its mode taken off `dot`. -/
def Bus.leaveMode (b : Bus) : Bus := { b with ppu := { b.ppu with dot := b.ppu.dot - b.ppu.mode.width } }

/-- The display with LY at the next scanline. -/
def Bus.nextLine (b : Bus) : Bus := { b with ppu := { b.ppu with ly := b.ppu.ly + 1 } }

/-- What follows the end of mode `m`, `dot` already reduced (R372). -/
def Bus.enterNext (m : DisplayMode) (b : Bus) : Bus :=
  match m with
  | .oamScan  => b.boundary .transfer
  | .transfer => (b.renderLine b.ppu.ly.toNat).boundary .hblank
  | .hblank   =>
    if b.ppu.ly + 1 = 144#8 then b.nextLine.vblankEntry.boundary .vblank else b.nextLine.boundary .oamScan
  | .vblank   =>
    if b.ppu.ly + 1 = 154#8 then { b with ppu := { b.ppu with ly := 0, windowLine := 0 } }.boundary .oamScan
    else b.nextLine.boundary .vblank

/-- A crossing leaves its mode and enters the next (R372). -/
theorem Bus.crossMode_eq (b : Bus) : b.crossMode = b.leaveMode.enterNext b.ppu.mode := by
  unfold Bus.crossMode Bus.enterNext Bus.leaveMode
  cases b.ppu.mode <;> simp only [Bus.nextLine]

/-- No pixel depends on `dot`. -/
theorem Bus.paintRow_addDots (n : Nat) (b : Bus) (y : Nat) : (b.addDots n).paintRow y = b.paintRow y := by
  have hshade : ∀ x, (b.addDots n).pixelShade y x = b.pixelShade y x := fun _ => rfl
  have hback : (b.addDots n).ppu.fbBack = b.ppu.fbBack := rfl
  unfold Bus.paintRow
  simp only [hshade, hback]

/-- Drawing a scanline and adding T-cycles commute. -/
theorem Bus.renderLine_addDots (n : Nat) (b : Bus) (y : Nat) : (b.addDots n).renderLine y = (b.renderLine y).addDots n := by
  unfold Bus.renderLine
  rw [Bus.paintRow_addDots]
  generalize b.paintRow y = fb
  rfl

/-- Entering the next mode and adding T-cycles commute. -/
theorem Bus.enterNext_addDots (n : Nat) (m : DisplayMode) (b : Bus) :
    (b.addDots n).enterNext m = (b.enterNext m).addDots n := by
  cases m <;> unfold Bus.enterNext
  case oamScan => rfl
  case transfer =>
    simp only
    rw [Bus.renderLine_addDots]
    rfl
  case hblank | vblank =>
    simp only
    rw [apply_ite (Bus.addDots n)]
    rfl

/-- A crossing and adding T-cycles commute, once the mode is over. -/
theorem Bus.crossMode_addDots (n : Nat) {b : Bus} (h : b.ppu.mode.width ≤ b.ppu.dot) :
    (b.addDots n).crossMode = b.crossMode.addDots n := by
  have e : (b.addDots n).leaveMode = b.leaveMode.addDots n := by
    unfold Bus.leaveMode Bus.addDots
    simp only [Nat.sub_add_comm h]
  rw [Bus.crossMode_eq, Bus.crossMode_eq, e]
  exact Bus.enterNext_addDots n _ _

/-- A crossing leaves LCDC alone. -/
theorem Bus.crossMode_lcdc (b : Bus) : b.crossMode.ppu.lcdc = b.ppu.lcdc := by
  unfold Bus.crossMode
  simp only
  split
  · rfl
  · rfl
  · split_ifs <;> rfl
  · split_ifs <;> rfl

/-! ## All crossings -/

/-- The loop of `ppu_step` gives the same with any fuel that is enough. -/
theorem Bus.crossModes_fuel : ∀ {f f' : Nat} {b : Bus}, b.ppu.dot / 80 < f → b.ppu.dot / 80 < f' →
    Bus.crossModes f b = Bus.crossModes f' b
  | 0, _, _, h, _ => absurd h (Nat.not_lt_zero _)
  | _ + 1, 0, _, _, h => absurd h (Nat.not_lt_zero _)
  | f + 1, f' + 1, b, h, h' => by
    have hw := b.ppu.mode.width_ge
    have hd := b.crossMode_dot
    unfold Bus.crossModes
    split_ifs
    · rfl
    · exact Bus.crossModes_fuel (by omega) (by omega)

/-- Every crossing that is due, as `ppu_step` makes them (R372). -/
def Bus.crossAll (b : Bus) : Bus := Bus.crossModes (b.ppu.dot / 80 + 1) b

/-- `ppu_step(c)` adds the T-cycles and makes every crossing that is due (R372). -/
theorem Bus.ppuStep_eq {b : Bus} (h : b.ppu.lcdOn = true) (c : Nat) : b.ppuStep c = (b.addDots c).crossAll := if_pos h

/-- No crossing is due inside a mode. -/
theorem Bus.crossAll_of_lt {b : Bus} (h : b.ppu.dot < b.ppu.mode.width) : b.crossAll = b := Bus.crossModes_of_lt h _

/-- A crossing that is due comes first. -/
theorem Bus.crossAll_of_ge {b : Bus} (h : b.ppu.mode.width ≤ b.ppu.dot) : b.crossAll = b.crossMode.crossAll := by
  have hw := b.ppu.mode.width_ge
  have hd := b.crossMode_dot
  have e : b.crossAll = Bus.crossModes (b.ppu.dot / 80) b.crossMode := if_neg (Nat.not_lt.2 h)
  rw [e]
  exact Bus.crossModes_fuel (by omega) (by omega)

/-- The crossings leave LCDC alone. -/
theorem Bus.crossModes_lcdc : ∀ (fuel : Nat) (b : Bus), (Bus.crossModes fuel b).ppu.lcdc = b.ppu.lcdc
  | 0, _ => rfl
  | fuel + 1, b => by
    unfold Bus.crossModes
    split_ifs
    · rfl
    · rw [Bus.crossModes_lcdc fuel, Bus.crossMode_lcdc]

/-- The crossings due after more T-cycles are those due before and then the rest. -/
theorem Bus.crossAll_addDots (n : Nat) (b : Bus) : (b.addDots n).crossAll = (b.crossAll.addDots n).crossAll := by
  induction hd : b.ppu.dot using Nat.strongRecOn generalizing b with
  | ind d ih =>
    subst hd
    by_cases h : b.ppu.dot < b.ppu.mode.width
    · rw [Bus.crossAll_of_lt h]
    · have hge := Nat.not_lt.1 h
      have hw := b.ppu.mode.width_ge
      have hge' : (b.addDots n).ppu.mode.width ≤ (b.addDots n).ppu.dot := Nat.le_add_right_of_le hge
      rw [Bus.crossAll_of_ge hge', Bus.crossMode_addDots n hge, Bus.crossAll_of_ge hge]
      refine ih _ ?_ _ rfl
      rw [b.crossMode_dot]
      omega

/-- `ppu_step` leaves LCDC alone. -/
theorem Bus.ppuStep_lcdc (c : Nat) (b : Bus) : (b.ppuStep c).ppu.lcdc = b.ppu.lcdc := by
  unfold Bus.ppuStep
  split_ifs
  · exact Bus.crossModes_lcdc _ _
  · rfl

/-- With the LCD off nothing moves (R370). -/
theorem Bus.ppuStep_off {b : Bus} (h : b.ppu.lcdOn = false) (c : Nat) : b.ppuStep c = b :=
  if_neg (by rw [h]; decide)

/-- However the T-cycles are cut, the display ends the same (R385). -/
theorem Bus.ppuStep_add (b : Bus) (m n : Nat) : b.ppuStep (m + n) = (b.ppuStep m).ppuStep n := by
  cases hon : b.ppu.lcdOn
  · rw [Bus.ppuStep_off hon, Bus.ppuStep_off hon, Bus.ppuStep_off hon]
  · have hon' : (b.ppuStep m).ppu.lcdOn = true := by rw [Ppu.lcdOn, Bus.ppuStep_lcdc]; exact hon
    have e : b.addDots (m + n) = (b.addDots m).addDots n := by
      unfold Bus.addDots
      simp only [Nat.add_assoc]
    rw [Bus.ppuStep_eq hon', Bus.ppuStep_eq hon, Bus.ppuStep_eq hon, e, Bus.crossAll_addDots]

/-- Entering vertical-blank (R46, R376). -/
theorem Bus.vblankEntry_eq (b : Bus) :
    b.vblankEntry =
      { b with
        ppu := { b.ppu with fbFront := b.ppu.fbBack, fbBack := b.ppu.fbFront, frames := b.ppu.frames + 1 }
        ifl := b.ifl ||| 0b00001#5 } := rfl

/-! ## Each boundary -/

section Crossings

variable {b b' : Bus} {m m' : DisplayMode} {c : Nat} {p : Ppu} (hon : b.ppu.lcdOn = true)
  (hp : p = { b.ppu with dot := b.ppu.dot + c - b.ppu.mode.width })
include hon hp

/-- A `ppu_step` that ends mode `m`, enters mode `m'` and stops there (R372): `b'` is the display at that boundary. -/
theorem Bus.ppuStep_enters (hm : b.ppu.mode = m) (hge : m.width ≤ b.ppu.dot + c)
    (hlt : b.ppu.dot + c < m.width + m'.width) (he : ({ b with ppu := p } : Bus).enterNext m = b'.boundary m') :
    b.ppuStep c = b'.boundary m' := by
  have hcross : (b.addDots c).crossMode = b'.boundary m' := by
    have hleave : (b.addDots c).leaveMode = { b with ppu := p } := by rw [hp]; rfl
    have hmode : (b.addDots c).ppu.mode = m := hm
    rw [Bus.crossMode_eq, hleave, hmode, he]
  have hdot : (b.addDots c).crossMode.ppu.dot = b.ppu.dot + c - b.ppu.mode.width := Bus.crossMode_dot _
  have hend : (b.addDots c).crossMode.ppu.dot < (b.addDots c).crossMode.ppu.mode.width := by
    have hmode : (b.addDots c).crossMode.ppu.mode = m' := by rw [hcross]; rfl
    rw [hdot, hmode, hm]
    omega
  rw [← hcross]
  exact Bus.ppuStep_of_one hon rfl (by rw [hm]; exact hge) hend

/-- From mode 2 to mode 3 (R372). -/
theorem Bus.ppuStep_oamScan (hm : b.ppu.mode = .oamScan) (hge : 80 ≤ b.ppu.dot + c) (hlt : b.ppu.dot + c < 80 + 172) :
    b.ppuStep c = { b with ppu := p }.boundary .transfer :=
  Bus.ppuStep_enters hon hp hm hge hlt rfl

/-- From mode 3 to mode 0, which draws the scanline (R372, R378). -/
theorem Bus.ppuStep_transfer (hm : b.ppu.mode = .transfer) (hge : 172 ≤ b.ppu.dot + c)
    (hlt : b.ppu.dot + c < 172 + 204) :
    b.ppuStep c = ({ b with ppu := p }.renderLine b.ppu.ly.toNat).boundary .hblank := by
  have hly : b.ppu.ly = p.ly := by rw [hp]
  rw [hly]
  exact Bus.ppuStep_enters hon hp hm hge hlt rfl

/-- From mode 0 to mode 2 of the next scanline (R372). -/
theorem Bus.ppuStep_hblank (hm : b.ppu.mode = .hblank) (hly : b.ppu.ly ≠ 143) (hge : 204 ≤ b.ppu.dot + c)
    (hlt : b.ppu.dot + c < 204 + 80) :
    b.ppuStep c = { b with ppu := { p with ly := b.ppu.ly + 1 } }.boundary .oamScan := by
  have hne : p.ly + 1 ≠ 144#8 := by
    rw [hp]
    bv_omega
  have hly' : b.ppu.ly = p.ly := by rw [hp]
  rw [hly']
  exact Bus.ppuStep_enters hon hp hm hge hlt (if_neg hne)

/-- From mode 0 of scanline 143 into vertical-blank (R376). -/
theorem Bus.ppuStep_hblank_last (hm : b.ppu.mode = .hblank) (hly : b.ppu.ly = 143) (hge : 204 ≤ b.ppu.dot + c)
    (hlt : b.ppu.dot + c < 204 + 456) :
    b.ppuStep c =
      { b with
        ppu :=
          { p with
            ly := 144, fbFront := b.ppu.fbBack, fbBack := b.ppu.fbFront, frames := b.ppu.frames + 1 }
        ifl := b.ifl ||| 0b00001#5 }.boundary .vblank := by
  have heq : p.ly + 1 = 144#8 := by
    rw [hp]
    bv_omega
  refine Bus.ppuStep_enters hon hp hm hge hlt ((if_pos heq).trans ?_)
  rw [Bus.nextLine, Bus.vblankEntry_eq, heq, hp]
  rfl

/-- From a scanline of vertical-blank to the next (R372). -/
theorem Bus.ppuStep_vblank (hm : b.ppu.mode = .vblank) (hly : b.ppu.ly ≠ 153) (hge : 456 ≤ b.ppu.dot + c)
    (hlt : b.ppu.dot + c < 456 + 456) :
    b.ppuStep c = { b with ppu := { p with ly := b.ppu.ly + 1 } }.boundary .vblank := by
  have hne : p.ly + 1 ≠ 154#8 := by
    rw [hp]
    bv_omega
  have hly' : b.ppu.ly = p.ly := by rw [hp]
  rw [hly']
  exact Bus.ppuStep_enters hon hp hm hge hlt (if_neg hne)

/-- From the last scanline of vertical-blank to mode 2 of scanline 0 (R372). -/
theorem Bus.ppuStep_vblank_last (hm : b.ppu.mode = .vblank) (hly : b.ppu.ly = 153) (hge : 456 ≤ b.ppu.dot + c)
    (hlt : b.ppu.dot + c < 456 + 80) :
    b.ppuStep c = { b with ppu := { p with ly := 0, windowLine := 0 } }.boundary .oamScan := by
  have heq : p.ly + 1 = 154#8 := by
    rw [hp]
    bv_omega
  exact Bus.ppuStep_enters hon hp hm hge hlt (if_pos heq)

end Crossings

/-- Inside a mode only `dot` moves (R372). -/
theorem Bus.ppuStep_inside {b : Bus} {c : Nat} (hon : b.ppu.lcdOn = true) (hlt : b.ppu.dot + c < b.ppu.mode.width) :
    b.ppuStep c = { b with ppu := { b.ppu with dot := b.ppu.dot + c } } := by
  have hlt' : (b.addDots c).ppu.dot < (b.addDots c).ppu.mode.width := hlt
  rw [Bus.ppuStep_eq hon, Bus.crossAll_of_lt hlt']
  rfl

/-- What `boundary(m)` does, the LCD_STAT request included (R375). -/
theorem Bus.boundary_eq (b : Bus) (m : DisplayMode) :
    b.boundary m =
      { b with
        ppu := { b.ppu with mode := m, coincidence := decide (b.ppu.ly = b.ppu.lyc) }
        ifl :=
          if (m ≠ b.ppu.mode ∧
                ((m = .hblank ∧ b.ppu.statEnable.getLsbD 0 = true) ∨
                  (m = .vblank ∧ b.ppu.statEnable.getLsbD 1 = true) ∨
                  (m = .oamScan ∧ b.ppu.statEnable.getLsbD 2 = true))) ∨
              (b.ppu.ly = b.ppu.lyc ∧ b.ppu.coincidence = false ∧ b.ppu.statEnable.getLsbD 3 = true) then
            b.ifl ||| 0b00010#5
          else b.ifl } := by
  have hentry : b.ppu.entryEnabled m = true ↔
      (m = .hblank ∧ b.ppu.statEnable.getLsbD 0 = true) ∨
        (m = .vblank ∧ b.ppu.statEnable.getLsbD 1 = true) ∨
        (m = .oamScan ∧ b.ppu.statEnable.getLsbD 2 = true) := by
    cases m <;> simp [Ppu.entryEnabled]
  unfold Bus.boundary request
  simp only [Ppu.boundaryRaises_iff, hentry, Ppu.lycEnabled]
  rfl

/-! ## A frame, boundary by boundary -/

/-- A request that stands is never taken back by another (R326). -/
theorem request_keeps {ifl : BitVec 5} {k : Nat} (h : ifl.getLsbD k = true) (i : Interrupt) (raised : Bool) :
    (request ifl i raised).getLsbD k = true := by
  unfold request
  split_ifs
  · rw [BitVec.getLsbD_or, h, Bool.true_or]
  · exact h

/-- The running display has just entered mode `m` on scanline `y`. -/
structure Bus.AtStart (b : Bus) (y : Nat) (m : DisplayMode) : Prop where
  on   : b.ppu.lcdOn = true
  ly   : b.ppu.ly.toNat = y
  mode : b.ppu.mode = m
  dot  : b.ppu.dot = 0

/-- Since `b` the display has come to the start of mode `m` on scanline `y`, has published `k` frames, and has requested VBLANK if it
published any; it has taken no request back. -/
structure Bus.Reaches (b b' : Bus) (y : Nat) (m : DisplayMode) (k : Nat) : Prop where
  start  : b'.AtStart y m
  frames : b'.ppu.frames = b.ppu.frames + k
  vblank : 0 < k ∨ b.ifl.getLsbD 0 = true → b'.ifl.getLsbD 0 = true

/-- Entering a mode with `dot` at 0 is coming to its start. -/
theorem Bus.reaches_boundary {b b' : Bus} {y k : Nat} {m : DisplayMode} (hon : b'.ppu.lcdOn = true)
    (hly : b'.ppu.ly.toNat = y) (hdot : b'.ppu.dot = 0) (hframes : b'.ppu.frames = b.ppu.frames + k)
    (hv : 0 < k ∨ b.ifl.getLsbD 0 = true → b'.ifl.getLsbD 0 = true) : b.Reaches (b'.boundary m) y m k where
  start  := ⟨hon, hly, rfl, hdot⟩
  frames := hframes
  vblank := fun h => request_keeps (hv h) _ _

/-- No T-cycles, nothing reached but the start. -/
theorem Bus.AtStart.refl {b : Bus} {y : Nat} {m : DisplayMode} (h : b.AtStart y m) : b.Reaches (b.ppuStep 0) y m 0 := by
  have e : b.ppuStep 0 = b := Bus.ppuStep_inside h.on (by rw [h.dot]; have := b.ppu.mode.width_ge; omega)
  rw [e]
  exact ⟨h, rfl, fun hv => hv.resolve_left (Nat.lt_irrefl 0)⟩

/-- The T-cycles to one boundary and those from it to a later one add up. -/
theorem Bus.Reaches.trans {b : Bus} {c c' y y' k k' : Nat} {m m' : DisplayMode} (h : b.Reaches (b.ppuStep c) y m k)
    (h' : ∀ b' : Bus, b'.AtStart y m → b'.Reaches (b'.ppuStep c') y' m' k') :
    b.Reaches (b.ppuStep (c + c')) y' m' (k + k') := by
  obtain ⟨hs, hf, hv⟩ := h' _ h.start
  rw [Bus.ppuStep_add]
  refine ⟨hs, by rw [hf, h.frames, Nat.add_assoc], fun hk => hv ?_⟩
  by_cases hk' : 0 < k'
  · exact .inl hk'
  · exact .inr (h.vblank (hk.imp_left fun _ => by omega))

section Lines

variable {b : Bus} {y : Nat}

/-- Mode 2 takes 80 T-cycles (R371). -/
theorem Bus.AtStart.oamScan (h : b.AtStart y .oamScan) : b.Reaches (b.ppuStep 80) y .transfer 0 := by
  obtain ⟨hon, hly, hm, hdot⟩ := h
  rw [Bus.ppuStep_oamScan hon rfl hm (by omega) (by omega)]
  refine Bus.reaches_boundary hon hly ?_ rfl fun hv => hv.resolve_left (Nat.lt_irrefl 0)
  simp only [hdot, hm, DisplayMode.width]

/-- Mode 3 takes 172 T-cycles (R371). -/
theorem Bus.AtStart.transfer (h : b.AtStart y .transfer) : b.Reaches (b.ppuStep 172) y .hblank 0 := by
  obtain ⟨hon, hly, hm, hdot⟩ := h
  rw [Bus.ppuStep_transfer hon rfl hm (by omega) (by omega)]
  refine Bus.reaches_boundary hon hly ?_ rfl fun hv => hv.resolve_left (Nat.lt_irrefl 0)
  simp only [Bus.renderLine, hdot, hm, DisplayMode.width]

/-- Mode 0 takes 204 T-cycles and ends its scanline (R371). -/
theorem Bus.AtStart.hblank (h : b.AtStart y .hblank) (hy : y < 143) : b.Reaches (b.ppuStep 204) (y + 1) .oamScan 0 := by
  obtain ⟨hon, hly, hm, hdot⟩ := h
  rw [Bus.ppuStep_hblank hon rfl hm (by bv_omega) (by omega) (by omega)]
  refine Bus.reaches_boundary hon ?_ ?_ rfl fun hv => hv.resolve_left (Nat.lt_irrefl 0)
  · rw [← hly]
    exact ly_succ (by omega)
  · simp only [hdot, hm, DisplayMode.width]

/-- Mode 0 of scanline 143 ends in vertical-blank, with a frame published and VBLANK requested (R376). -/
theorem Bus.AtStart.hblank_last (h : b.AtStart 143 .hblank) : b.Reaches (b.ppuStep 204) 144 .vblank 1 := by
  obtain ⟨hon, hly, hm, hdot⟩ := h
  rw [Bus.ppuStep_hblank_last hon rfl hm (BitVec.eq_of_toNat_eq hly) (by omega) (by omega)]
  refine Bus.reaches_boundary hon rfl ?_ rfl fun _ => ?_
  · simp only [hdot, hm, DisplayMode.width]
  · rw [BitVec.getLsbD_or]
    exact Bool.or_true _

/-- A scanline of vertical-blank takes 456 T-cycles (R371). -/
theorem Bus.AtStart.vblank (h : b.AtStart y .vblank) (hy : y < 153) : b.Reaches (b.ppuStep 456) (y + 1) .vblank 0 := by
  obtain ⟨hon, hly, hm, hdot⟩ := h
  rw [Bus.ppuStep_vblank hon rfl hm (by bv_omega) (by omega) (by omega)]
  refine Bus.reaches_boundary hon ?_ ?_ rfl fun hv => hv.resolve_left (Nat.lt_irrefl 0)
  · rw [← hly]
    exact ly_succ (by omega)
  · simp only [hdot, hm, DisplayMode.width]

/-- The last scanline of vertical-blank ends at the start of scanline 0 (R372). -/
theorem Bus.AtStart.vblank_last (h : b.AtStart 153 .vblank) : b.Reaches (b.ppuStep 456) 0 .oamScan 0 := by
  obtain ⟨hon, hly, hm, hdot⟩ := h
  rw [Bus.ppuStep_vblank_last hon rfl hm (BitVec.eq_of_toNat_eq hly) (by omega) (by omega)]
  refine Bus.reaches_boundary hon rfl ?_ rfl fun hv => hv.resolve_left (Nat.lt_irrefl 0)
  simp only [hdot, hm, DisplayMode.width]

/-- The first scanlines of a frame take 456 T-cycles each. -/
theorem Bus.AtStart.visibleLines (h : b.AtStart 0 .oamScan) {n : Nat} (hn : n ≤ 143) :
    b.Reaches (b.ppuStep (456 * n)) n .oamScan 0 := by
  induction n with
  | zero => exact h.refl
  | succ n ih =>
    have e : 456 * (n + 1) = 456 * n + 80 + 172 + 204 := by omega
    rw [e]
    exact (((ih (by omega)).trans fun _ => AtStart.oamScan).trans fun _ => AtStart.transfer).trans
      fun _ h' => h'.hblank (by omega)

/-- From the entry of vertical-blank on, each of its first scanlines takes 456 T-cycles too. -/
theorem Bus.Reaches.blankLines {c n : Nat} (h : b.Reaches (b.ppuStep c) 144 .vblank 1) (hn : n ≤ 9) :
    b.Reaches (b.ppuStep (c + 456 * n)) (144 + n) .vblank 1 := by
  induction n with
  | zero => exact h
  | succ n ih =>
    have e : c + 456 * (n + 1) = c + 456 * n + 456 := by omega
    rw [e]
    exact (ih (by omega)).trans fun _ h' => h'.vblank (by omega)

/-- A frame is 143 scanlines, the one that ends in vertical-blank, and ten more: 154 times 456 T-cycles. -/
theorem Bus.AtStart.frame (h : b.AtStart 0 .oamScan) : b.Reaches (b.ppuStep 70224) 0 .oamScan 1 :=
  have hlast : b.Reaches (b.ppuStep (456 * 143 + 80 + 172 + 204)) 144 .vblank 1 :=
    (((h.visibleLines le_rfl).trans fun _ => AtStart.oamScan).trans fun _ => AtStart.transfer).trans
      fun _ => AtStart.hblank_last
  (hlast.blankLines le_rfl).trans fun _ => AtStart.vblank_last

end Lines

/-! ## Steps of the machine -/

/-- Byte stores publish no frame and leave the front framebuffer alone (R401, R53 (h)). -/
theorem Bus.writes_frames (b : Bus) (w : List (Word × Byte)) :
    (b.writes w).ppu.frames = b.ppu.frames ∧ (b.writes w).ppu.fbFront = b.ppu.fbFront := by
  induction w generalizing b with
  | nil => exact ⟨rfl, rfl⟩
  | cons x w ih =>
    obtain ⟨hf, hfront, -⟩ := Bus.write_frames b x.1 x.2
    obtain ⟨ihf, ihfront⟩ := ih (b.write x.1 x.2)
    exact ⟨ihf.trans hf, ihfront.trans hfront⟩

/-- A step of the CPU publishes no frame and leaves the front framebuffer alone. -/
theorem State.CpuStepsTo.frames {s t : State} {n : Nat} (h : s.CpuStepsTo t n) :
    t.bus.ppu.frames = s.bus.ppu.frames ∧ t.bus.ppu.fbFront = s.bus.ppu.fbFront := by
  obtain ⟨i, w, e⟩ := h.bus
  rw [e]
  exact Bus.writes_frames _ w

/-- The end of a quantum leaves the display where `ppu_step` does (R391). -/
theorem State.endQuantum_ppu (s : State) : s.endQuantum.bus.ppu = (s.bus.ppuStep s.consumed).ppu := by
  show ((s.bus.ppuStep s.consumed).ioStep s.consumed).ppu = _
  rw [Bus.ioStep_frame]

/-- The end of a quantum changes the front framebuffer only with a frame published (R53 (h)). -/
theorem State.endQuantum_frames (s : State) :
    s.bus.ppu.frames ≤ s.endQuantum.bus.ppu.frames ∧
    (s.endQuantum.bus.ppu.frames = s.bus.ppu.frames → s.endQuantum.bus.ppu.fbFront = s.bus.ppu.fbFront) := by
  rw [State.endQuantum_ppu]
  exact Bus.ppuStep_frames s.consumed s.bus

/-- A step changes the front framebuffer only with a frame published (R53 (h)). -/
theorem step_frames {s t : State} (h : step s = .next t) :
    s.bus.ppu.frames ≤ t.bus.ppu.frames ∧
    (t.bus.ppu.frames = s.bus.ppu.frames → t.bus.ppu.fbFront = s.bus.ppu.fbFront) := by
  rcases step_next_cases h with ⟨-, rfl⟩ | ⟨-, -, u, n, hu, rfl⟩ | ⟨-, -, rfl⟩
  · exact ⟨le_rfl, fun _ => rfl⟩
  · obtain ⟨hf, hfront⟩ := hu.frames
    rw [← hf, ← hfront]
    rcases u.settle_cases with ⟨-, -, e⟩ | e <;> rw [e]
    · exact ⟨le_rfl, fun _ => rfl⟩
    · exact u.endQuantum_frames
  · exact s.endQuantum_frames

/-- Settles O54: `ppu_step` composes, each boundary is one crossing, and a frame is its boundaries in turn. -/
theorem frameIs70224Cycles : Obligations.FrameIs70224Cycles := by
  refine ⟨fun b hon hly hm hdot => ?_, fun b m n _ => b.ppuStep_add m n, fun b c p hon _ hp => ?_,
    fun b c hoff => Bus.ppuStep_off hoff c, Bus.boundary_eq, fun s t => step_frames⟩
  · obtain ⟨⟨-, hly', hm', hdot'⟩, hframes, hv⟩ := Bus.AtStart.frame ⟨hon, congrArg BitVec.toNat hly, hm, hdot⟩
    exact ⟨BitVec.eq_of_toNat_eq hly', hm', hdot', hframes, hv (.inl Nat.one_pos)⟩
  · exact ⟨Bus.ppuStep_oamScan hon hp, Bus.ppuStep_transfer hon hp, Bus.ppuStep_hblank hon hp,
      Bus.ppuStep_hblank_last hon hp, Bus.ppuStep_vblank hon hp, Bus.ppuStep_vblank_last hon hp,
      Bus.ppuStep_inside hon⟩

end Sys2Proof.Machine
end

section
/-! SUPPORT. Plain storage through the router (R60 to R71, R90): the mirror, the word accesses, blocking by display mode, and what
every address reads after plain stores. -/

namespace Sys2Proof.Machine

/-! ## Windows on storage -/

/-- The VRAM window (R60). -/
theorem regionOf_vram {a : Word} (h : 0x8000 ≤ a.toNat) (h' : a.toNat ≤ 0x9FFF) : regionOf a = .vram (a.toNat - 0x8000) := by
  unfold regionOf
  simp only
  rw [if_neg (by omega), if_pos h']

/-- The OAM window (R60). -/
theorem regionOf_oam {a : Word} (h : 0xFE00 ≤ a.toNat) (h' : a.toNat ≤ 0xFE9F) : regionOf a = .oam (a.toNat - 0xFE00) := by
  unfold regionOf
  simp only
  rw [if_neg (by omega), if_neg (by omega), if_neg (by omega), if_neg (by omega), if_neg (by omega), if_pos h']

/-- The mirror window and the WRAM 0x2000 below it are the same storage (R61). -/
theorem regionOf_mirror {a : Word} (h : 0xE000 ≤ a.toNat) (h' : a.toNat ≤ 0xFDFF) :
    regionOf (a - 0x2000) = regionOf a := by
  have hsub : (a - 0x2000).toNat = a.toNat - 0x2000 := by bv_omega
  unfold regionOf
  simp only [hsub]
  rw [if_neg (by omega), if_neg (by omega), if_neg (by omega), if_pos (by omega),
    if_neg (by omega), if_neg (by omega), if_neg (by omega), if_neg (by omega), if_pos h']
  exact congrArg Region.wram (by omega)

/-- Settles O45: the router sees an address only through its region, and a word access is two byte accesses. -/
theorem mirrorAndWordAccesses : Obligations.MirrorAndWordAccesses := by
  refine ⟨fun b a v h h' => ?_, fun s a => joinBytes_toNat _ _, fun s a v => ?_⟩
  · exact ⟨congrArg b.readRegion (regionOf_mirror h h').symm, congrArg (b.writeRegion v) (regionOf_mirror h h').symm⟩
  · rw [State.write16_eq, loByte_eq, hiByte_eq]

/-! ## Blocking by display mode -/

/-- When VRAM is blocked (R90). -/
theorem Bus.vramBlocked_iff (b : Bus) :
    b.vramBlocked = true ↔ b.contention = true ∧ b.ppu.lcdc.getLsbD 7 = true ∧ b.ppu.mode = .transfer := by
  simp [Bus.vramBlocked, Ppu.lcdOn, bitOf, and_assoc]

/-- When OAM is blocked (R90). -/
theorem Bus.oamBlocked_iff (b : Bus) :
    b.oamBlocked = true ↔
      b.contention = true ∧ b.ppu.lcdc.getLsbD 7 = true ∧ (b.ppu.mode = .oamScan ∨ b.ppu.mode = .transfer) := by
  simp [Bus.oamBlocked, Ppu.lcdOn, bitOf, and_assoc]

/-- Settles O46: each window is one array behind one gate. -/
theorem videoMemoryIsBlockedByMode : Obligations.VideoMemoryIsBlockedByMode := by
  refine fun b a v => ⟨fun h h' => ?_, fun h h' => ?_⟩
  · rw [Bus.read, Bus.write, regionOf_vram h h']
    split_ifs with hb <;> rw [← b.vramBlocked_iff] at hb
    · exact ⟨if_pos hb, if_pos hb⟩
    · exact ⟨if_neg hb, if_neg hb⟩
  · rw [Bus.read, Bus.write, regionOf_oam h h']
    split_ifs with hb <;> rw [← b.oamBlocked_iff] at hb
    · exact ⟨if_pos hb, if_pos hb⟩
    · exact ⟨if_neg hb, if_neg hb⟩

/-! ## Plain stores -/

/-- External RAM that reaches a bank: read after write (R130). -/
theorem Cart.readRam_writeRam {c : Cart} {n bound : Nat} (h : Memory.wf bound c.eram = true) (ht : c.ramTarget = .bank n)
    (o o' : Nat) (v : Byte) : (c.writeRam o v).readRam o' = if o' = o then v else c.readRam o' := by
  have hw : c.writeRam o v = { c with eram := cellSet c.eram (n * 0x2000 + o) v } := by rw [Cart.writeRam, ht]
  have ht' : ({ c with eram := cellSet c.eram (n * 0x2000 + o) v } : Cart).ramTarget = .bank n := ht
  rw [hw, Cart.readRam, Cart.readRam, ht, ht']
  simp [cellGet_cellSet h]

/-- A plain byte of the I/O window: every register of the window read after its write (R83). -/
theorem Bus.ioRead_ioWrite_plain {b : Bus} {bound : Nat} (h : Memory.wf bound b.ioPlain = true) {k : Nat}
    (hk : ioRegOf k = .plain k) (o : Nat) (v : Byte) :
    (b.ioWrite v (ioRegOf k)).ioRead (ioRegOf o) = if o = k then v else b.ioRead (ioRegOf o) := by
  rw [hk, Bus.ioWrite]
  cases ho : ioRegOf o with
  | plain k' =>
    obtain rfl := ioRegOf_plain ho
    exact cellGet_cellSet h
  | _ =>
    have hne : o ≠ k := by
      rintro rfl
      rw [hk] at ho
      cases ho
    rw [if_neg hne]
    rfl

/-- After a plain store every address of the same storage byte reads the value written, and every other address reads as before. -/
theorem Bus.read_write_of_storesPlainly {b : Bus} (hb : b.Ok) {a : Word} (h : b.storesPlainly a = true) (v : Byte)
    (a' : Word) : (b.write a v).read a' = if regionOf a' = regionOf a then v else b.read a' := by
  unfold Bus.storesPlainly at h
  unfold Bus.write Bus.read
  generalize regionOf a = r at h ⊢
  generalize regionOf a' = r'
  cases r with
  | rom n => cases h
  | vram o =>
    have hopen : b.vramBlocked = false := by simpa using h
    have hopen' : ({ b with vram := cellSet b.vram o v } : Bus).vramBlocked = false := hopen
    rw [Bus.writeRegion, hopen, if_neg Bool.false_ne_true]
    cases r' with
    | vram o' => simp [Bus.readRegion, hopen, hopen', cellGet_cellSet hb.vram]
    | _ => rfl
  | oam o =>
    have hopen : b.oamBlocked = false := by simpa using h
    have hopen' : ({ b with oam := cellSet b.oam o v } : Bus).oamBlocked = false := hopen
    rw [Bus.writeRegion, hopen, if_neg Bool.false_ne_true]
    cases r' with
    | oam o' => simp [Bus.readRegion, hopen, hopen', cellGet_cellSet hb.oam]
    | _ => rfl
  | eram o =>
    obtain ⟨n, ht⟩ : ∃ n, b.cart.ramTarget = .bank n := by
      cases ht : b.cart.ramTarget <;> simp [ht] at h ⊢
    cases r' with
    | eram o' => simp [Bus.readRegion, Bus.writeRegion, Cart.readRam_writeRam hb.cart.eram ht]
    | rom n' => simp [Bus.readRegion, Bus.writeRegion, Cart.writeRam, ht]; rfl
    | _ => rfl
  | io k =>
    have hk : ioRegOf k = .plain k := by
      cases hk : ioRegOf k <;> simp [hk] at h ⊢
      exact ioRegOf_plain hk
    cases r' with
    | io o => simp [Bus.readRegion, Bus.writeRegion, Bus.ioRead_ioWrite_plain hb.ioPlain hk]
    | _ => rw [Bus.writeRegion, hk]; rfl
  | wram o =>
    cases r' with
    | wram o' => simp [Bus.readRegion, Bus.writeRegion, cellGet_cellSet hb.wram]
    | _ => rfl
  | unused o =>
    cases r' with
    | unused o' => simp [Bus.readRegion, Bus.writeRegion, cellGet_cellSet hb.unused]
    | _ => rfl
  | hram o =>
    cases r' with
    | hram o' => simp [Bus.readRegion, Bus.writeRegion, cellGet_cellSet hb.hram]
    | _ => rfl
  | ie =>
    cases r' with
    | ie => simp [Bus.readRegion, Bus.writeRegion]
    | _ => rfl

/-- Settles O43: a plain store changes one byte of one array, and every address sees the arrays through its region. -/
theorem plainStoresReadBack : Obligations.PlainStoresReadBack :=
  fun _ _ a' v hb h => Bus.read_write_of_storesPlainly hb h v a'

/-! ## The stores of an instruction -/

/-- A plain store leaves every gate of the memory as it was, so the same addresses stay plain. -/
theorem Bus.storesPlainly_write {b : Bus} {a : Word} (h : b.storesPlainly a = true) (v : Byte) (a' : Word) :
    (b.write a v).storesPlainly a' = b.storesPlainly a' := by
  have hgates : (b.write a v).vramBlocked = b.vramBlocked ∧ (b.write a v).oamBlocked = b.oamBlocked ∧
      (b.write a v).cart.ramTarget = b.cart.ramTarget := by
    unfold Bus.storesPlainly at h
    unfold Bus.write
    generalize regionOf a = r at h ⊢
    cases r with
    | rom n => cases h
    | vram o | oam o =>
      rw [Bus.writeRegion]
      split <;> exact ⟨rfl, rfl, rfl⟩
    | eram o =>
      refine ⟨rfl, rfl, ?_⟩
      show (b.cart.writeRam o v).ramTarget = b.cart.ramTarget
      unfold Cart.writeRam
      split <;> rfl
    | io k =>
      cases hk : ioRegOf k <;> simp [hk] at h
      rw [Bus.writeRegion, hk]
      exact ⟨rfl, rfl, rfl⟩
    | _ => exact ⟨rfl, rfl, rfl⟩
  obtain ⟨hv, ho, hc⟩ := hgates
  unfold Bus.storesPlainly
  rw [hv, ho, hc]

/-- Plain stores to distinct storage bytes: each is read back, and every byte of other storage is as before. -/
theorem Bus.read_writes_of_storesPlainly : ∀ {l : List (Word × Byte)} {b : Bus}, b.Ok →
    (∀ w ∈ l, b.storesPlainly w.1 = true) → l.Pairwise (fun w w' => regionOf w.1 ≠ regionOf w'.1) →
    (∀ w ∈ l, (b.writes l).read w.1 = w.2) ∧
    ∀ a, (∀ w ∈ l, regionOf a ≠ regionOf w.1) → (b.writes l).read a = b.read a
  | [], _, _, _, _ => ⟨nofun, fun _ _ => rfl⟩
  | x :: l, b, hb, hp, hd => by
    obtain ⟨hx, hd⟩ := List.pairwise_cons.1 hd
    obtain ⟨hpx, hpl⟩ := List.forall_mem_cons.1 hp
    obtain ⟨hback, hframe⟩ := Bus.read_writes_of_storesPlainly (hb.write x.1 x.2)
      (fun w hw => (Bus.storesPlainly_write hpx x.2 w.1).trans (hpl w hw)) hd
    refine ⟨List.forall_mem_cons.2 ⟨?_, hback⟩, fun a ha => ?_⟩
    · exact (hframe x.1 hx).trans ((Bus.read_write_of_storesPlainly hb hpx x.2 x.1).trans (if_pos rfl))
    · obtain ⟨hax, hal⟩ := List.forall_mem_cons.1 ha
      exact (hframe a hal).trans ((Bus.read_write_of_storesPlainly hb hpx x.2 a).trans (if_neg hax))

/-- The two stores of a word reach distinct storage bytes. -/
theorem State.wordStores_distinct (s : State) (a v : Word) :
    (s.wordStores a v).Pairwise fun w w' => regionOf w.1 ≠ regionOf w'.1 :=
  List.pairwise_pair.2 (regionOf_succ_ne a).symm

/-- A meaning makes no store, one, or the two of a word, so it never stores to the same byte twice. -/
theorem Meaning.stores_distinct {p : Profile} (h : Meaning p) (s : State) :
    (p.stores s).Pairwise fun w w' => regionOf w.1 ≠ regionOf w'.1 := by
  cases h
  case ldMemSp | pushPair | callAlways | rst => exact s.wordStores_distinct _ _
  case callIf =>
    dsimp only
    split
    · exact s.wordStores_distinct _ _
    · exact .nil
  case ldMemReg | ldMemImm | storeA | storeAHl | incMem | decMem | swapMem | rotMem | editMem => exact List.pairwise_singleton _ _
  all_goals exact .nil

/-- Settles O44: the bus after an instruction is the bus before with its stores made in order, and they reach distinct bytes. -/
theorem memoryOutsideTheStoresIsUnchanged : Obligations.MemoryOutsideTheStoresIsUnchanged := by
  intro i s hb hp
  obtain ⟨p, hm, hi⟩ := exec_meaning i
  have hbus : (p.run s).bus = s.bus.writes (i.stores s) := by rw [hi.stores]; exact hm.bus s
  have hd := hm.stores_distinct s
  rw [← hi.stores] at hd
  obtain ⟨hback, hframe⟩ := Bus.read_writes_of_storesPlainly hb hp hd
  rw [← hbus] at hback hframe
  exact ⟨p.run s, hi.exec_eq s, hback, hframe⟩

end Sys2Proof.Machine
end

section
/-! SUPPORT. The I/O registers through the router (R81, R82): what each reads after a write, and what a write changes. -/

namespace Sys2Proof.Machine

/-- What a register of the I/O window reads after its write (R62, R63). -/
theorem Bus.read_write_io {a : Word} {o : Nat} (h : regionOf a = .io o) (b : Bus) (v : Byte) :
    (b.write a v).read a = (b.ioWrite v (ioRegOf o)).ioRead (ioRegOf o) := by
  rw [Bus.write_io h, Bus.read_io h]

/-! ## Registers some of whose bits are not stored -/

/-- P1 stores two select bits above the four lines (R35). -/
theorem p1_high_bits (v : Byte) (lines : BitVec 4) :
    (0b11#2 ++ BitVec.ofBool (bitOf v 5) ++ BitVec.ofBool (bitOf v 4) ++ lines : Byte) &&& 0xF0#8 =
      (v &&& 0x30) ||| 0xC0 := by
  have hlines : ∀ (action dir : Bool) (lines : BitVec 4),
      (0b11#2 ++ BitVec.ofBool action ++ BitVec.ofBool dir ++ lines : Byte) &&& 0xF0#8 =
        0b11#2 ++ BitVec.ofBool action ++ BitVec.ofBool dir ++ 0#4 := by decide
  have hselect : ∀ v : Byte, (0b11#2 ++ BitVec.ofBool (bitOf v 5) ++ BitVec.ofBool (bitOf v 4) ++ 0#4 : Byte) =
      (v &&& 0x30) ||| 0xC0 := by decide
  rw [hlines]
  exact hselect v

/-- P1 as an integer (R35, R81). -/
theorem p1_toNat (action dir : Bool) (lines : BitVec 4) :
    (0b11#2 ++ BitVec.ofBool action ++ BitVec.ofBool dir ++ lines : Byte).toNat =
      0xC0 + 32 * bitNat action + 16 * bitNat dir + lines.toNat := by
  revert action dir lines
  decide

/-- SC keeps two bits (R36). -/
theorem sc_stored_bits : ∀ v : Byte,
    (BitVec.ofBool (bitOf v 7) ++ 0b111111#6 ++ BitVec.ofBool (bitOf v 0) : Byte) = v ||| 0x7E := by decide

/-- TAC keeps three bits (R37). -/
theorem tac_stored_bits : ∀ v : Byte, (0b11111#5 ++ v.setWidth 3 : Byte) = v ||| 0xF8 := by decide

/-- IF keeps five bits (R34). -/
theorem if_stored_bits : ∀ v : Byte, (0b111#3 ++ v.setWidth 5 : Byte) = v ||| 0xE0 := by decide

/-- STAT stores bits 6-3 between the 1 of bit 7 and the mode and comparison bits (R39). -/
theorem stat_stored_bits (v : Byte) (e : BitVec 4) (c : Bool) (m : BitVec 2) :
    (0b1#1 ++ v.extractLsb' 3 4 ++ BitVec.ofBool c ++ m : Byte) =
      0x80#8 ||| (v &&& 0x78) ||| ((0b1#1 ++ e ++ BitVec.ofBool c ++ m : Byte) &&& 0x07#8) := by
  have hmask : ∀ v : Byte, v &&& 0x78 = 0#1 ++ v.extractLsb' 3 4 ++ 0#3 := by decide
  have hlow : ∀ (e : BitVec 4) (c : Bool) (m : BitVec 2),
      (0b1#1 ++ e ++ BitVec.ofBool c ++ m : Byte) &&& 0x07#8 = 0#5 ++ BitVec.ofBool c ++ m := by decide
  have hjoin : ∀ (e : BitVec 4) (c : Bool) (m : BitVec 2), (0b1#1 ++ e ++ BitVec.ofBool c ++ m : Byte) =
      0x80#8 ||| (0#1 ++ e ++ 0#3 : Byte) ||| (0#5 ++ BitVec.ofBool c ++ m : Byte) := by decide
  rw [hmask, hlow]
  exact hjoin _ c m

/-- 0xFF50 stores one bit, only ever set (R44). -/
theorem bootOff_stored_bit (off : Bool) (v : Byte) :
    (0b1111111#7 ++ BitVec.ofBool (off || bitOf v 0) : Byte) =
      ((0b1111111#7 ++ BitVec.ofBool off : Byte) ||| (v &&& 0x01)) ||| 0xFE := by
  revert off v
  decide

/-- A byte cut to the bits a register keeps (R82). -/
theorem setWidth_eq_ofNat {n m : Nat} (h : 2 ^ n = m) (v : Byte) : v.setWidth n = BitVec.ofNat n (v.toNat % m) := by
  subst h
  apply BitVec.eq_of_toNat_eq
  simp

/-- The bits of a byte STAT keeps (R82). -/
theorem statBits_eq_ofNat (v : Byte) : v.extractLsb' 3 4 = BitVec.ofNat 4 (v.toNat / 8 % 16) := by
  apply BitVec.eq_of_toNat_eq
  simp [Nat.shiftRight_eq_div_pow]

/-! ## LCDC -/

/-- LCDC keeps the byte written, whatever else the write does (R383). -/
theorem Bus.lcdcWrite_lcdc (b : Bus) (v : Byte) : (b.lcdcWrite v).ppu.lcdc = v := by
  unfold Bus.lcdcWrite
  split_ifs <;> rfl

/-- Switching the LCD off (R383). -/
theorem Bus.lcdcWrite_off {b : Bus} {v : Byte} (hb : b.ppu.lcdc.getLsbD 7 = true) (hv : v.getLsbD 7 = false) :
    b.lcdcWrite v =
      { b with ppu := { b.ppu with lcdc := v, ly := 0, dot := 0, mode := .hblank, windowLine := 0 } } :=
  if_pos ⟨hb, hv⟩

/-- Switching the LCD on enters mode 2 at the top of the screen (R383, R375). -/
theorem Bus.lcdcWrite_on {b : Bus} {v : Byte} (hb : b.ppu.lcdc.getLsbD 7 = false) (hv : v.getLsbD 7 = true) :
    b.lcdcWrite v =
      { b with ppu := { b.ppu with lcdc := v, ly := 0, dot := 0, windowLine := 0 } }.boundary .oamScan := by
  have hoff : ¬ (b.ppu.lcdOn = true ∧ bitOf v 7 = false) := fun h => Bool.false_ne_true (h.2.symm.trans hv)
  exact (if_neg hoff).trans (if_pos ⟨hb, hv⟩)

/-- A write that leaves LCDC[7] as it was changes LCDC alone (R383). -/
theorem Bus.lcdcWrite_same {b : Bus} {v : Byte} (h : b.ppu.lcdc.getLsbD 7 = v.getLsbD 7) :
    b.lcdcWrite v = { b with ppu := { b.ppu with lcdc := v } } := by
  have hoff : ¬ (b.ppu.lcdOn = true ∧ bitOf v 7 = false) := fun ⟨hon, hv⟩ => by simp_all [Ppu.lcdOn, bitOf]
  have hon : ¬ (b.ppu.lcdOn = false ∧ bitOf v 7 = true) := fun ⟨hoff, hv⟩ => by simp_all [Ppu.lcdOn, bitOf]
  exact (if_neg hoff).trans (if_neg hon)

/-! ## Every register -/

/-- Settles O48: the router hands a register's address to its handler, and each handler keeps the bits it stores. -/
theorem ioRegistersReadBack : Obligations.IoRegistersReadBack := by
  refine ⟨fun b v => ?_, fun b => ?_, fun b v => ?_, fun b v => ⟨fun hb hv => ?_, fun hb hv => ?_, fun h => ?_⟩⟩
  · have back {a : Word} {o : Nat} (h : regionOf a = .io o) := Bus.read_write_io h b v
    refine ⟨?p1, back (o := 0x01) (by decide), ?sc, ?div, back (o := 0x05) (by decide),
      back (o := 0x06) (by decide), ?tac, ?ifl, ?lcdc, ?stat, back (o := 0x42) (by decide), back (o := 0x43) (by decide),
      Bus.write_io (o := 0x44) (by decide), back (o := 0x45) (by decide), ?dma, back (o := 0x47) (by decide),
      back (o := 0x48) (by decide), back (o := 0x49) (by decide), back (o := 0x4A) (by decide),
      back (o := 0x4B) (by decide), ?bootOff, rfl⟩
    case p1 => exact (congrArg (· &&& 0xF0#8) (back (o := 0x00) (by decide))).trans (p1_high_bits v _)
    case sc => exact (back (o := 0x02) (by decide)).trans (sc_stored_bits v)
    case div => exact (back (o := 0x04) (by decide)).trans (by decide : hiByte 0 = 0)
    case tac => exact (back (o := 0x07) (by decide)).trans (tac_stored_bits v)
    case ifl => exact (back (o := 0x0F) (by decide)).trans (if_stored_bits v)
    case lcdc => exact (back (o := 0x40) (by decide)).trans (b.lcdcWrite_lcdc v)
    case stat =>
      rw [back (o := 0x41) (by decide), Bus.read_io (b := b) (o := 0x41) (by decide)]
      exact stat_stored_bits v b.ppu.statEnable b.ppu.coincidence b.ppu.mode.code
    case dma =>
      refine (back (o := 0x46) (by decide)).trans ?_
      show (Bus.oamDma v { b with ppu := { b.ppu with dma := v } }).ppu.dma = v
      rw [Bus.oamDma_frame]
    case bootOff =>
      rw [back (o := 0x50) (by decide), Bus.read_io (b := b) (o := 0x50) (by decide)]
      exact bootOff_stored_bit b.bootOff v
  · rw [Bus.read_io (o := 0x00) (by decide)]
    exact p1_toNat b.selAction b.selDir b.joyLow
  · have write {a : Word} {o : Nat} (h : regionOf a = .io o) := Bus.write_io (b := b) (v := v) h
    refine ⟨write (o := 0x00) (by decide), write (o := 0x01) (by decide), write (o := 0x04) (by decide),
      write (o := 0x05) (by decide), write (o := 0x06) (by decide), ?tacWrite, ?iflWrite, ?statWrite, write (o := 0x42) (by decide),
      write (o := 0x43) (by decide), write (o := 0x45) (by decide), write (o := 0x47) (by decide),
      write (o := 0x48) (by decide), write (o := 0x49) (by decide), write (o := 0x4A) (by decide),
      write (o := 0x4B) (by decide), rfl⟩
    case tacWrite =>
      rw [← setWidth_eq_ofNat (n := 3) (m := 8) rfl v]
      exact write (o := 0x07) (by decide)
    case iflWrite =>
      rw [← setWidth_eq_ofNat (n := 5) (m := 32) rfl v]
      exact write (o := 0x0F) (by decide)
    case statWrite =>
      rw [← statBits_eq_ofNat v]
      exact write (o := 0x41) (by decide)
  · exact (Bus.write_io (o := 0x40) (by decide)).trans (Bus.lcdcWrite_off hb hv)
  · refine ((Bus.write_io (o := 0x40) (by decide)).trans (Bus.lcdcWrite_on hb hv)).trans ?_
    rw [Bus.boundary_eq]
    simp [eq_comm (a := 0#8) (b := b.ppu.lyc), ne_comm (a := DisplayMode.oamScan)]
  · exact (Bus.write_io (o := 0x40) (by decide)).trans (Bus.lcdcWrite_same h)

end Sys2Proof.Machine
end

section
/-! SUPPORT. The sprite-table copy (R91, R96): what the router reads while it runs, and the OAM it leaves. -/

namespace Sys2Proof.Machine

/-- The source address of byte `i` of a copy (R96). -/
theorem dmaSource_eq (v : Byte) (i : Nat) : joinBytes v 0x00 + BitVec.ofNat 16 i = BitVec.ofNat 16 (256 * v.toNat + i) := by
  apply BitVec.eq_of_toNat_eq
  rw [BitVec.toNat_add, joinBytes_toNat]
  simp

/-- Only OAM's own addresses see OAM. -/
theorem Bus.readRegion_withOam (b : Bus) (m : Memory) (r : Region) (h : ∀ o, r = .oam o → cellGet m o = cellGet b.oam o) :
    ({ b with oam := m } : Bus).readRegion r = b.readRegion r := by
  cases r with
  | oam o =>
    show (if b.oamBlocked then 0xFF else cellGet m o) = if b.oamBlocked then 0xFF else cellGet b.oam o
    rw [h o rfl]
  | _ => rfl

/-- Where the OAM and I/O windows begin (R60). -/
theorem toNat_of_regionOf (a : Word) :
    match regionOf a with
    | .oam o => a.toNat = 0xFE00 + o ∧ o < 0xA0
    | .io o  => a.toNat = 0xFF00 + o
    | _      => True := by
  unfold regionOf
  simp only
  split_ifs <;> simp only <;> omega

/-- An OAM offset and its address (R60). -/
theorem toNat_of_regionOf_oam {a : Word} {o : Nat} (h : regionOf a = .oam o) : a.toNat = 0xFE00 + o ∧ o < 0xA0 := by
  have ha := toNat_of_regionOf a
  rw [h] at ha
  exact ha

/-- An I/O offset and its address (R60). -/
theorem toNat_of_regionOf_io {a : Word} {o : Nat} (h : regionOf a = .io o) : a.toNat = 0xFF00 + o := by
  have ha := toNat_of_regionOf a
  rw [h] at ha
  exact ha

/-- The DMA register stands at one offset (R80). -/
theorem ioRegOf_dma {o : Nat} (h : ioRegOf o = .dma) : o = 0x46 := by
  unfold ioRegOf at h
  split at h <;> simp_all

/-- Only 0xFF46 sees the DMA register (R81). -/
theorem Bus.read_withDma (b : Bus) (v : Byte) (a : Word) :
    ({ b with ppu := { b.ppu with dma := v } } : Bus).read a = if a = 0xFF46 then v else b.read a := by
  split_ifs with ha
  · subst ha
    exact Bus.read_io (o := 0x46) (by decide)
  · unfold Bus.read
    cases hr : regionOf a with
    | io o =>
      show Bus.ioRead _ (ioRegOf o) = b.ioRead (ioRegOf o)
      cases hio : ioRegOf o with
      | dma =>
        have haddr := toNat_of_regionOf_io hr
        rw [ioRegOf_dma hio] at haddr
        exact absurd (BitVec.eq_of_toNat_eq haddr) ha
      | _ => rfl
    | _ => rfl

/-- The source of byte `i` as an integer: a copy never runs past its page. -/
theorem dmaSource_toNat (v : Byte) {i : Nat} (hi : i < 160) :
    (BitVec.ofNat 16 (256 * v.toNat + i)).toNat = 256 * v.toNat + i := by
  rw [BitVec.toNat_ofNat, Nat.mod_eq_of_lt (by omega)]

/-- A source byte that lies in OAM stands at the index it is copied to. -/
theorem oam_offset_of_dmaSource {v : Byte} {i o : Nat} (hi : i < 160)
    (h : regionOf (BitVec.ofNat 16 (256 * v.toNat + i)) = .oam o) : o = i := by
  obtain ⟨ha, ho⟩ := toNat_of_regionOf_oam h
  rw [dmaSource_toNat v hi] at ha
  omega

/-- The one source byte that is the DMA register (R80, R96). -/
theorem dmaSource_eq_register {v : Byte} {i : Nat} (hi : i < 160) :
    BitVec.ofNat 16 (256 * v.toNat + i) = 0xFF46 ↔ v = 0xFF ∧ i = 0x46 := by
  rw [← BitVec.toNat_inj, dmaSource_toNat v hi, ← BitVec.toNat_inj (x := v)]
  show _ = 0xFF46 ↔ _ = 0xFF ∧ _
  omega

/-- The first `n` bytes of the copy: each is what the router read before the copy began, and the rest of OAM is as it was (R96). -/
theorem Bus.cellGet_dmaFold {b : Bus} (hb : Memory.wf 0xA0 b.oam = true) (v : Byte) : ∀ {n : Nat}, n ≤ 160 → ∀ j,
    cellGet ((List.range n).foldl (Bus.dmaByte v) b).oam j =
      if j < n then b.read (BitVec.ofNat 16 (256 * v.toNat + j)) else cellGet b.oam j
  | 0, _, _ => rfl
  | n + 1, hn, j => by
    have ih := Bus.cellGet_dmaFold hb v (Nat.le_of_succ_le hn)
    have hwf := wf_dmaFold v (List.range n) b (fun i hi => by have := List.mem_range.1 hi; omega) hb
    have hsame : ((List.range n).foldl (Bus.dmaByte v) b).read (BitVec.ofNat 16 (256 * v.toNat + n)) =
        b.read (BitVec.ofNat 16 (256 * v.toNat + n)) := by
      rw [Bus.dmaFold_frame]
      refine Bus.readRegion_withOam b _ _ fun o ho => ?_
      rw [oam_offset_of_dmaSource hn ho, ih, if_neg (Nat.lt_irrefl n)]
    rw [List.range_succ, List.foldl_append, List.foldl_cons, List.foldl_nil, Bus.dmaByte, dmaSource_eq, hsame,
      cellGet_cellSet hwf, ih]
    by_cases hj : j = n
    · subst hj
      simp
    · rw [if_neg hj]
      exact if_congr (by omega) rfl rfl

/-- Settles O49: the copy reads the bus as it was with the new DMA register, which only its own address sees. -/
theorem dmaCopiesThroughTheRouter : Obligations.DmaCopiesThroughTheRouter := by
  intro b v hb
  have hw : b.write 0xFF46 v = Bus.oamDma v { b with ppu := { b.ppu with dma := v } } := Bus.write_io (o := 0x46) (by decide)
  refine ⟨fun i hi => ?_, ?_⟩
  · rw [hw]
    refine (Bus.cellGet_dmaFold (b := { b with ppu := { b.ppu with dma := v } }) hb.oam v le_rfl i).trans ?_
    rw [if_pos hi, Bus.read_withDma]
    simp only [dmaSource_eq_register hi]
    exact if_ctx_congr Iff.rfl (fun h => h.1) fun _ => rfl
  · rw [hw]
    exact Bus.oamDma_frame v _

end Sys2Proof.Machine
end

section
/-! SUPPORT. The bank controllers (R105 to R130): what each address range writes, and which banks and external RAM the registers
select. -/

namespace Sys2Proof.Machine

/-! ## Bit fields as integers -/

/-- Masking with `n` ones is the remainder by `2 ^ n`. -/
theorem toNat_and_ones {v mask : Byte} {n m : Nat} (hmask : mask.toNat = 2 ^ n - 1) (hm : 2 ^ n = m) :
    (v &&& mask).toNat = v.toNat % m := by
  rw [BitVec.toNat_and, hmask, Nat.and_two_pow_sub_one_eq_mod, hm]

/-- A byte made of a small integer is that integer. -/
theorem byteOf_toNat {n : Nat} (h : n < 256) : (byteOf n).toNat = n := Nat.mod_eq_of_lt h

/-- A field made of a small integer is that integer. -/
theorem ofNat_toNat_of_lt {w n : Nat} (h : n < 2 ^ w) : (BitVec.ofNat w n).toNat = n := Nat.mod_eq_of_lt h

/-- A masked bank number with 0 taken as 1 stays below the mask's range (R112, R118). -/
theorem oneIfZero_mod_lt {n m : Nat} (h : 1 < m) : (if n % m = 0 then 1 else n % m) < m := by
  split_ifs
  · exact h
  · exact Nat.mod_lt _ (Nat.zero_lt_of_lt h)

/-- A write keeps the variant. -/
theorem Cart.writeRom_variant (c : Cart) (a : Nat) (v : Byte) : (c.writeRom a v).variant = c.variant := by
  simp [Cart.writeRom_static]

/-- A write keeps the ROM mask. -/
theorem Cart.writeRom_romMask (c : Cart) (a : Nat) (v : Byte) : (c.writeRom a v).romMask = c.romMask := by
  unfold Cart.romMask
  simp [Cart.writeRom_static]

/-! ## MBC1 -/

section
variable {c : Cart} (h : c.variant = .mbc1) {a : Nat} (v : Byte)
include h

/-- RAM enable (R112). -/
theorem Cart.writeRom_mbc1_enable (ha : a ≤ 0x1FFF) :
    c.writeRom a v = { c with ramEnable := decide (v.toNat % 16 = 0xA) } :=
  (Cart.writeRom_mbc1 h a v).trans (if_pos ha)

/-- ROM select, 0 taken as 1 (R112). -/
theorem Cart.writeRom_mbc1_bankLo (hlo : 0x2000 ≤ a) (ha : a ≤ 0x3FFF) :
    c.writeRom a v = { c with romBankLo := byteOf (if v.toNat % 32 = 0 then 1 else v.toNat % 32) } := by
  rw [Cart.writeRom_mbc1 h, Cart.writeMbc1, if_neg (by omega), if_pos ha,
    oneIfZero_eq (toNat_and_ones (n := 5) (m := 32) rfl rfl)]

/-- Bank select (R112). -/
theorem Cart.writeRom_mbc1_bankHi (hlo : 0x4000 ≤ a) (ha : a ≤ 0x5FFF) :
    c.writeRom a v = { c with romBankHi := BitVec.ofNat 2 (v.toNat % 4) } := by
  rw [Cart.writeRom_mbc1 h, Cart.writeMbc1, if_neg (by omega), if_neg (by omega), if_pos ha,
    setWidth_eq_ofNat (n := 2) (m := 4) rfl]

/-- Mode (R112). -/
theorem Cart.writeRom_mbc1_mode (hlo : 0x6000 ≤ a) : c.writeRom a v = { c with mbc1Mode := v.getLsbD 0 } := by
  rw [Cart.writeRom_mbc1 h, Cart.writeMbc1, if_neg (by omega), if_neg (by omega), if_neg (by omega)]
  rfl

/-- The fixed region's bank (R113). -/
theorem Cart.lowBank_mbc1 : c.lowBank = if c.mbc1Mode = true then c.romMask (32 * c.romBankHi.toNat) else 0 := by
  unfold Cart.lowBank
  rw [h, Nat.mul_comm]

/-- External RAM (R112, R113, R130). -/
theorem Cart.ramTarget_mbc1 :
    c.ramTarget =
      if c.ramEnable = false ∨ c.ramBanks = 0 then .absent
      else .bank (if c.mbc1Mode = true then c.ramMask c.romBankHi.toNat else 0) := by
  unfold Cart.ramTarget
  rw [h]
  rfl

end

/-! ## MBC3 -/

section
variable {c : Cart} (h : c.variant = .mbc3) {a : Nat} (v : Byte)
include h

/-- RAM enable (R118). -/
theorem Cart.writeRom_mbc3_enable (ha : a ≤ 0x1FFF) :
    c.writeRom a v = { c with ramEnable := decide (v.toNat % 16 = 0xA) } :=
  (Cart.writeRom_mbc3 h a v).trans (if_pos ha)

/-- ROM select, 0 taken as 1 (R118). -/
theorem Cart.writeRom_mbc3_bankLo (hlo : 0x2000 ≤ a) (ha : a ≤ 0x3FFF) :
    c.writeRom a v = { c with romBankLo := byteOf (if v.toNat % 128 = 0 then 1 else v.toNat % 128) } := by
  rw [Cart.writeRom_mbc3 h, Cart.writeMbc3, if_neg (by omega), if_pos ha,
    oneIfZero_eq (toNat_and_ones (n := 7) (m := 128) rfl rfl)]

/-- Bank select (R118). -/
theorem Cart.writeRom_mbc3_ramBank (hlo : 0x4000 ≤ a) (ha : a ≤ 0x5FFF) :
    c.writeRom a v = { c with ramBank := BitVec.ofNat 4 (v.toNat % 16) } := by
  rw [Cart.writeRom_mbc3 h, Cart.writeMbc3, if_neg (by omega), if_neg (by omega), if_pos ha,
    setWidth_eq_ofNat (n := 4) (m := 16) rfl]

/-- The clock latch (R121). -/
theorem Cart.writeRom_mbc3_latch (hlo : 0x6000 ≤ a) : c.writeRom a v = c.latchClock v := by
  rw [Cart.writeRom_mbc3 h, Cart.writeMbc3, if_neg (by omega), if_neg (by omega), if_neg (by omega)]

/-- External RAM: a bank, a clock register, or nothing (R120, R130). -/
theorem Cart.ramTarget_mbc3 :
    c.ramTarget =
      if c.ramEnable = false then .absent
      else if c.ramBank.toNat ≤ 7 then (if c.ramBanks = 0 then .absent else .bank (c.ramMask c.ramBank.toNat))
      else if c.hasRtc = true ∧ c.ramBank.toNat ≤ 0xC then .clock (c.ramBank.toNat - 8)
      else .absent := by
  unfold Cart.ramTarget Cart.gatedBank
  rw [h]
  cases c.ramEnable <;> simp

end

/-! ## MBC5 -/

section
variable {c : Cart} (h : c.variant = .mbc5) {a : Nat} (v : Byte)
include h

/-- RAM enable (R124). -/
theorem Cart.writeRom_mbc5_enable (ha : a ≤ 0x1FFF) :
    c.writeRom a v = { c with ramEnable := decide (v.toNat % 16 = 0xA) } :=
  (Cart.writeRom_mbc5 h a v).trans (if_pos ha)

/-- ROM select, low byte (R124). -/
theorem Cart.writeRom_mbc5_bankLo (hlo : 0x2000 ≤ a) (ha : a ≤ 0x2FFF) : c.writeRom a v = { c with romBankLo := v } := by
  rw [Cart.writeRom_mbc5 h, Cart.writeMbc5, if_neg (by omega), if_pos ha]

/-- ROM select, bit 8 (R124). -/
theorem Cart.writeRom_mbc5_bankHi (hlo : 0x3000 ≤ a) (ha : a ≤ 0x3FFF) :
    c.writeRom a v = { c with romBankHi := BitVec.ofNat 2 (v.toNat % 2) } := by
  have hbit : (v &&& 0x01).setWidth 2 = BitVec.ofNat 2 (v.toNat % 2) := by
    rw [setWidth_eq_ofNat (n := 2) (m := 4) rfl, toNat_and_ones (n := 1) (m := 2) rfl rfl]
    congr 1
    omega
  rw [Cart.writeRom_mbc5 h, Cart.writeMbc5, if_neg (by omega), if_neg (by omega), if_pos ha, hbit]

/-- Bank select (R124). -/
theorem Cart.writeRom_mbc5_ramBank (hlo : 0x4000 ≤ a) (ha : a ≤ 0x5FFF) :
    c.writeRom a v = { c with ramBank := BitVec.ofNat 4 (v.toNat % 16) } := by
  rw [Cart.writeRom_mbc5 h, Cart.writeMbc5, if_neg (by omega), if_neg (by omega), if_neg (by omega), if_pos ha,
    setWidth_eq_ofNat (n := 4) (m := 16) rfl]

/-- The last range names no register (R124). -/
theorem Cart.writeRom_mbc5_unused (hlo : 0x6000 ≤ a) : c.writeRom a v = c := by
  rw [Cart.writeRom_mbc5 h, Cart.writeMbc5, if_neg (by omega), if_neg (by omega), if_neg (by omega), if_neg (by omega)]

/-- External RAM (R125, R130). -/
theorem Cart.ramTarget_mbc5 :
    c.ramTarget =
      if c.ramEnable = false ∨ c.ramBanks = 0 then .absent else .bank (c.ramMask c.ramBank.toNat) := by
  unfold Cart.ramTarget
  rw [h]
  rfl

end

/-! ## Every variant -/

/-- Both effective ROM banks of a legal cartridge exist (R53 (e), R128). -/
theorem Cart.romBank_lt {c : Cart} (h : c.Ok) : c.lowBank < c.romBanks ∧ c.highBank < c.romBanks := by
  have h2 : 2 ≤ c.romBanks := by
    have hmem := h.romBanks
    simp only [List.mem_cons, List.not_mem_nil, or_false] at hmem
    omega
  unfold Cart.lowBank Cart.highBank
  cases c.variant with
  | noMbc => exact ⟨Nat.zero_lt_of_lt h2, h2⟩
  | mbc1 =>
    refine ⟨?_, Cart.romMask_lt h _⟩
    dsimp only
    split_ifs
    · exact Cart.romMask_lt h _
    · omega
  | mbc3 | mbc5 => exact ⟨Nat.zero_lt_of_lt h2, Cart.romMask_lt h _⟩

/-- The image byte a ROM address reads is the one of its effective bank (R105). -/
theorem Cart.readRom_eq (c : Cart) (a : Nat) :
    ∃ i, i = (if a ≤ 0x3FFF then 0x4000 * c.lowBank + a else 0x4000 * c.highBank + (a - 0x4000)) ∧
      c.readRom a = if i < c.romLen then cellGet c.rom i else 0xFF := by
  refine ⟨_, rfl, ?_⟩
  unfold Cart.readRom Cart.romByte
  split_ifs <;> simp_all [Nat.mul_comm]

/-- A clock register after a write of any of the five (R122). -/
theorem Rtc.get_set (r : Rtc) (v : Byte) {i j : Nat} (hi : i < 5) (hj : j < 5) :
    (r.set i v).get j = if j = i then v &&& [0x3F#8, 0x3F#8, 0x1F#8, 0xFF#8, 0xC1#8].getD i 0 else r.get j := by
  interval_cases i <;> interval_cases j <;> rfl

/-- External RAM through the router, by what the cartridge's registers select (R62, R63, R130). -/
theorem Bus.eram_target {b : Bus} {a : Word} (v : Byte) (h : 0xA000 ≤ a.toNat) (h' : a.toNat ≤ 0xBFFF) :
    (b.cart.ramTarget = .absent → b.read a = 0xFF ∧ b.write a v = b) ∧
    (∀ n, b.cart.ramTarget = .bank n →
      b.read a = cellGet b.cart.eram (0x2000 * n + (a.toNat - 0xA000)) ∧
      b.write a v =
        { b with cart := { b.cart with eram := cellSet b.cart.eram (0x2000 * n + (a.toNat - 0xA000)) v } }) ∧
    (∀ i, b.cart.ramTarget = .clock i →
      b.read a = b.cart.rtcLatched.get i ∧
      b.write a v = { b with cart := { b.cart with rtc := b.cart.rtc.set i v } }) := by
  rw [Bus.read_eram (regionOf_eram h h'), Bus.write_eram (regionOf_eram h h')]
  unfold Cart.readRam Cart.writeRam
  refine ⟨fun ht => ?_, fun n ht => ?_, fun i ht => ?_⟩ <;> rw [ht]
  · exact ⟨rfl, rfl⟩
  · rw [Nat.mul_comm 0x2000 n]
    exact ⟨rfl, rfl⟩
  · exact ⟨rfl, rfl⟩

/-- Settles O50: the masks bound every index, and each variant is the list of its ranges and selections. -/
theorem bankIndicesAreMasked : Obligations.BankIndicesAreMasked := by
  refine ⟨fun c h => ⟨(Cart.romBank_lt h).1, (Cart.romBank_lt h).2, fun n => Cart.ramTarget_lt⟩,
    fun c a _ => c.readRom_eq a, fun b a v => Bus.eram_target v,
    fun r v i j hi hj => ⟨rfl, r.get_set v hi hj⟩, fun c a v h _ => ?noMbc, fun c a v h => ?mbc1, fun c a v h => ?mbc3,
    fun c a v h => ?mbc5, fun c a a' h hn h1 h2 h3 h4 => ?worked⟩
  case noMbc =>
    refine ⟨Cart.writeRom_noMbc h a v, by rw [Cart.lowBank, h], by rw [Cart.highBank, h], ?_⟩
    rw [Cart.ramTarget, h]
    cases c.ramBanks <;> simp
  case mbc1 =>
    have hv : (c.writeRom a v).variant = .mbc1 := (c.writeRom_variant a v).trans h
    refine ⟨Cart.writeRom_mbc1_enable h v, fun hlo ha => ?_, fun hlo ha => ?_, fun hlo _ => Cart.writeRom_mbc1_mode h v hlo,
      Cart.lowBank_mbc1 h, Cart.highBank_mbc1 h, Cart.ramTarget_mbc1 h⟩
    · have hw := Cart.writeRom_mbc1_bankLo h v hlo ha
      have hfield := oneIfZero_mod_lt (n := v.toNat) (m := 32) (by decide)
      have hbank : (c.writeRom a v).romBankLo.toNat = if v.toNat % 32 = 0 then 1 else v.toNat % 32 := by
        rw [hw]
        exact byteOf_toNat (Nat.lt_trans hfield (by decide))
      refine ⟨hw, ?_⟩
      rw [Cart.highBank_mbc1 hv (by omega), Cart.writeRom_romMask, hbank, hw]
    · have hw := Cart.writeRom_mbc1_bankHi h v hlo ha
      refine ⟨hw, fun hbank => ?_⟩
      rw [Cart.highBank_mbc1 hv (by rw [hw]; exact hbank), Cart.writeRom_romMask, hw]
      show c.romMask (32 * (BitVec.ofNat 2 (v.toNat % 4)).toNat + c.romBankLo.toNat) = _
      rw [ofNat_toNat_of_lt (by omega)]
  case mbc3 =>
    have hv : (c.writeRom a v).variant = .mbc3 := (c.writeRom_variant a v).trans h
    refine ⟨Cart.writeRom_mbc3_enable h v, fun hlo ha => ?_, Cart.writeRom_mbc3_ramBank h v,
      fun hlo _ => Cart.writeRom_mbc3_latch h v hlo, by rw [Cart.lowBank, h], Cart.highBank_mbc3 h,
      Cart.ramTarget_mbc3 h⟩
    have hw := Cart.writeRom_mbc3_bankLo h v hlo ha
    have hfield := oneIfZero_mod_lt (n := v.toNat) (m := 128) (by decide)
    refine ⟨hw, ?_⟩
    rw [Cart.highBank_mbc3 hv, Cart.writeRom_romMask, hw]
    exact congrArg c.romMask (byteOf_toNat (Nat.lt_trans hfield (by decide)))
  case mbc5 =>
    have hv : (c.writeRom a v).variant = .mbc5 := (c.writeRom_variant a v).trans h
    refine ⟨Cart.writeRom_mbc5_enable h v, fun hlo ha => ?_, fun hlo ha => ?_, Cart.writeRom_mbc5_ramBank h v,
      fun hlo _ => Cart.writeRom_mbc5_unused h v hlo, by rw [Cart.lowBank, h], Cart.highBank_mbc5 h,
      Cart.ramTarget_mbc5 h⟩
    · have hw := Cart.writeRom_mbc5_bankLo h v hlo ha
      refine ⟨hw, ?_⟩
      rw [Cart.highBank_mbc5 hv, Cart.writeRom_romMask, hw]
    · have hw := Cart.writeRom_mbc5_bankHi h v hlo ha
      refine ⟨hw, ?_⟩
      rw [Cart.highBank_mbc5 hv, Cart.writeRom_romMask, hw]
      show c.romMask (256 * (BitVec.ofNat 2 (v.toNat % 2)).toNat + c.romBankLo.toNat) = _
      rw [ofNat_toNat_of_lt (by omega)]
  case worked =>
    have hv : (c.writeRom a 0x82).variant = .mbc5 := (c.writeRom_variant a 0x82).trans h
    have hv' : ((c.writeRom a 0x82).writeRom a' 0x00).variant = .mbc5 := (Cart.writeRom_variant _ a' 0x00).trans hv
    have hhi : ((c.writeRom a 0x82).writeRom a' 0x00).romBankHi = 0 := by rw [Cart.writeRom_mbc5_bankHi hv 0x00 h3 h4]; rfl
    have hlo : ((c.writeRom a 0x82).writeRom a' 0x00).romBankLo = 0x82 := by
      rw [Cart.writeRom_mbc5_bankHi hv 0x00 h3 h4, Cart.writeRom_mbc5_bankLo h 0x82 h1 h2]
    rw [Cart.highBank_mbc5 hv', Cart.writeRom_romMask, Cart.writeRom_romMask, hhi, hlo, Cart.romMask, hn]
    rfl

end Sys2Proof.Machine
end

section
/-! SUPPORT. The battery image (R108, R404): what `save_persisted_state()` hands out, and what a reset reads back from it. -/

namespace Sys2Proof.Machine

/-- The clock bytes of a battery image stand beyond its external RAM, so a cut at that length does not see them (R108). -/
theorem filter_rtcCells (r : Rtc) (n : Nat) (m : Memory) :
    ((r.cells n m).filter fun kv => decide (kv.1 < n)) = m.filter fun kv => decide (kv.1 < n) := by
  unfold Rtc.cells
  generalize List.range 5 = l
  induction l generalizing m with
  | nil => rfl
  | cons i l ih => rw [List.foldl_cons, ih, filter_cellSet_of_le (Nat.le_add_right n i)]

/-- The image handed out: a battery, the external RAM as its first bytes, and the length a reset asks for (R108, R404). -/
theorem savePersisted_some {s : State} {img : Image} (h : s.savePersisted = some img) :
    s.bus.cart.battery = true ∧
      (img.len = eramLen s.bus.cart.ramBanks ∨
        (s.bus.cart.hasRtc = true ∧ img.len = eramLen s.bus.cart.ramBanks + 5)) ∧
      img.upTo (eramLen s.bus.cart.ramBanks) = s.bus.cart.eram.filter fun kv => decide (kv.1 < eramLen s.bus.cart.ramBanks) := by
  unfold State.savePersisted at h
  simp only at h
  split_ifs at h with hb hr <;> cases h
  · exact ⟨by simpa using hb, .inr ⟨hr, rfl⟩, filter_rtcCells _ _ _⟩
  · exact ⟨by simpa using hb, .inl rfl, rfl⟩

/-- Settles O58: the reset builds the same cartridge, takes the image because its length is right, and cuts the clock bytes off. -/
theorem savedRamIsReloaded : Obligations.SavedRamIsReloaded := by
  intro cfg s0 s img hs0 hok hbat hrtc hbanks himg
  obtain ⟨hrom, hboot, k, nr, na, hk, hv, hnr, hna, rfl⟩ := reset_ok_iff.1 hs0
  rw [powerOn_cart] at hbat hrtc hbanks
  obtain ⟨hb, hlen, hcut⟩ := savePersisted_some himg
  rw [hbanks] at hlen hcut
  rw [hrtc] at hlen
  refine ⟨_, reset_ok_iff.2 ⟨hrom, hboot, k, nr, na, hk, hv, hnr, hna, rfl⟩, ?_⟩
  rw [powerOn_cart]
  have hwf := hok.eram
  rw [hbanks] at hwf
  have htake : k.battery = true ∧ (img.len = eramLen na ∨ (k.rtc = true ∧ img.len = eramLen na + 5)) :=
    ⟨hbat.symm.trans hb, hlen⟩
  calc (buildCart { cfg with battery := img } k nr na).eram
      = img.upTo (eramLen na) := if_pos htake
    _ = s.bus.cart.eram.filter fun kv => decide (kv.1 < eramLen na) := hcut
    _ = s.bus.cart.eram := filter_of_cellsFrom hwf

end Sys2Proof.Machine
end

section
/-! SUPPORT. Encoder and decoder against one relation, `Spelled`: the byte strings the opcode maps of R148 and R149 give an
instruction. The decoder consumes exactly a spelling, and the encoder writes the one spelling there is. -/

namespace Sys2Proof

open Sys2Proof.Machine

/-- The byte strings that spell an instruction by the opcode maps: an opcode, then its immediate or its second opcode (R140, R146,
R305). -/
inductive Spelled : Instr → List Byte → Prop
  | op {op : Byte} {i : Instr} (h : opcodeEntry op = .op i) : Spelled i [op]
  | imm8 {op : Byte} {f : Byte → Instr} (h : opcodeEntry op = .imm8 f) (n : Byte) : Spelled (f n) [op, n]
  | imm16 {op : Byte} {f : Word → Instr} (h : opcodeEntry op = .imm16 f) (nn : Word) :
      Spelled (f nn) [op, loByte nn, hiByte nn]
  | prefixed {op op2 : Byte} {i : Instr} (h : opcodeEntry op = .prefixCB) (h2 : cbInstr op2 = i) : Spelled i [op, op2]

/-! ## The decoder consumes a spelling -/

/-- The decoder in terms of the map entry at the first byte (R140). -/
theorem decode_cons (op : Byte) (rest : List Byte) :
    decode (op :: rest) =
      if rest.length + 1 < (opcodeEntry op).size then .error (.truncated op)
      else .ok ((opcodeEntry op).build (rest.getD 0 0) (rest.getD 1 0), rest.drop ((opcodeEntry op).size - 1)) := rfl

/-- Whatever follows a spelling, the decoder stops at its end. -/
theorem Spelled.decode_append {i : Instr} {bs : List Byte} (h : Spelled i bs) (rest : List Byte) :
    decode (bs ++ rest) = .ok (i, rest) := by
  cases h with
  | op h => simp [decode_cons, h, Entry.size, Entry.build]
  | imm8 h n => simp [decode_cons, h, Entry.size, Entry.build]
  | imm16 h nn => simp [decode_cons, h, Entry.size, Entry.build]
  | prefixed h h2 => simp [decode_cons, h, h2, Entry.size, Entry.build]

/-- What the decoder consumes spells what it reads. -/
theorem spelled_of_decode {bs rest : List Byte} {i : Instr} (h : decode bs = .ok (i, rest)) :
    ∃ pre, Spelled i pre ∧ bs = pre ++ rest := by
  cases bs with
  | nil => cases h
  | cons op tail =>
    rw [decode_cons] at h
    split_ifs at h with hlen
    cases h
    cases he : opcodeEntry op with
    | op i => exact ⟨_, .op he, rfl⟩
    | imm8 f =>
      obtain _ | ⟨n, rest⟩ := tail
      · simp [he, Entry.size] at hlen
      · exact ⟨_, .imm8 he n, rfl⟩
    | imm16 f =>
      obtain _ | ⟨lo, _ | ⟨hi, rest⟩⟩ := tail
      · simp [he, Entry.size] at hlen
      · simp [he, Entry.size] at hlen
      · exact ⟨_, .imm16 he (joinBytes hi lo), by simp [Entry.size]⟩
    | prefixCB =>
      obtain _ | ⟨op2, rest⟩ := tail
      · simp [he, Entry.size] at hlen
      · exact ⟨_, .prefixed he rfl, rfl⟩

/-! ## The encoder writes the one spelling -/

/-- Every constructor stands in the maps at the opcode the encoder writes for it (R148, R149, R150). Per constructor, the shape of
its encoding picks the shape of the spelling, and the map is looked up by evaluation. -/
theorem spelled_encode (i : Instr) : Spelled i (encode i) := by
  cases i <;> constructor <;> rfl

/-- A byte is the byte of its own value. -/
theorem byteOf_toNat_self (b : Byte) : byteOf b.toNat = b :=
  (BitVec.ofNat_toNat 8 b).trans (BitVec.setWidth_eq b)

/-- The encoder writes back the opcode an entry stands at, then the entry's immediate (R146). The one entry with a
second opcode stands at 0xCB. -/
inductive Entry.EncodesAt (op : Byte) : Entry → Prop
  | op {i : Instr} (h : encode i = [op]) : EncodesAt op (.op i)
  | imm8 {f : Byte → Instr} (h : ∀ n, encode (f n) = [op, n]) : EncodesAt op (.imm8 f)
  | imm16 {f : Word → Instr} (h : ∀ nn, encode (f nn) = [op, loByte nn, hiByte nn]) : EncodesAt op (.imm16 f)
  | prefixCB (h : op = 0xCB) : EncodesAt op .prefixCB

/-- Every entry of the base map is encoded at its own opcode (R148, R150). Per opcode, the map is looked up, the entry found
picks its constructor, and the encoder is evaluated at a variable immediate. -/
theorem encodesAt_of_opcodeEntry {op : Byte} {e : Entry} (h : opcodeEntry op = e) : e.EncodesAt op := by
  subst h
  obtain ⟨k, hk, rfl⟩ : ∃ k < 256, byteOf k = op := ⟨op.toNat, op.isLt, byteOf_toNat_self op⟩
  interval_cases k <;> constructor <;> intros <;> rfl

/-- Every instruction of the CB map is encoded at its own second byte (R149, R305). -/
theorem encode_cbInstr (op2 : Byte) : encode (cbInstr op2) = [0xCB, op2] := by
  revert op2
  decide

/-- An instruction has one spelling: the encoder's. -/
theorem Spelled.eq_encode {i : Instr} {bs : List Byte} (h : Spelled i bs) : bs = encode i := by
  cases h with
  | op h =>
    cases encodesAt_of_opcodeEntry h with
    | op he => exact he.symm
  | imm8 h n =>
    cases encodesAt_of_opcodeEntry h with
    | imm8 he => exact (he n).symm
  | imm16 h nn =>
    cases encodesAt_of_opcodeEntry h with
    | imm16 he => exact (he nn).symm
  | prefixed h h2 =>
    cases encodesAt_of_opcodeEntry h with
    | prefixCB he => rw [← h2, encode_cbInstr, he]

/-- Settles O1: the encoding is a spelling, and the decoder reads a spelling back. -/
theorem decodeOfEncode : Obligations.DecodeOfEncode :=
  fun i => (spelled_encode i).decode_append

/-- Settles O2: the consumed bytes are a spelling, and the encoding is the only one. -/
theorem decodedBytesAreTheEncoding : Obligations.DecodedBytesAreTheEncoding := by
  intro bs rest i h
  obtain ⟨pre, hpre, rfl⟩ := spelled_of_decode h
  rw [hpre.eq_encode]

/-! ## The illegal opcodes -/

/-- The eleven undefined opcodes (R150). -/
def illegalOpcodes : List Nat := [0xD3, 0xDB, 0xDD, 0xE3, 0xE4, 0xEB, 0xEC, 0xED, 0xF4, 0xFC, 0xFD]

/-- The illegal constructors are one byte each: the undefined opcodes, in order (R150). -/
theorem map_encode_illegals : Instr.illegals.map encode = illegalOpcodes.map fun n => [byteOf n] := rfl

/-- An illegal constructor is spelled by an undefined opcode alone. -/
theorem encode_of_mem_illegals {i : Instr} (h : i ∈ Instr.illegals) : ∃ n ∈ illegalOpcodes, encode i = [byteOf n] := by
  have hmem := List.mem_map_of_mem (f := encode) h
  rw [map_encode_illegals, List.mem_map] at hmem
  obtain ⟨n, hn, he⟩ := hmem
  exact ⟨n, hn, he.symm⟩

/-- Every undefined opcode spells an illegal constructor. -/
theorem exists_illegal_encode {n : Nat} (h : n ∈ illegalOpcodes) : ∃ i ∈ Instr.illegals, encode i = [byteOf n] := by
  have hmem := List.mem_map_of_mem (f := fun n => [byteOf n]) h
  rw [← map_encode_illegals, List.mem_map] at hmem
  exact hmem

/-- An illegal constructor is read from an undefined opcode, and nothing after it is consumed (R150). -/
theorem undefinedOpcode_of_decode_illegal {op : Byte} {tail rest : List Byte} {i : Instr}
    (h : decode (op :: tail) = .ok (i, rest)) (hi : i ∈ Instr.illegals) : op.toNat ∈ illegalOpcodes ∧ rest = tail := by
  obtain ⟨n, hn, he⟩ := encode_of_mem_illegals hi
  have hbytes := decodedBytesAreTheEncoding _ _ _ h
  rw [he] at hbytes
  obtain ⟨rfl, rfl⟩ := List.cons.inj hbytes
  have hlt : ∀ n ∈ illegalOpcodes, n < 256 := by decide
  exact ⟨by rwa [byteOf_toNat (hlt n hn)], rfl⟩

/-- An undefined opcode decodes to an illegal constructor, whatever follows it (R150, R152). -/
theorem mem_illegals_of_decode {op : Byte} {tail rest : List Byte} {i : Instr} (h : decode (op :: tail) = .ok (i, rest))
    (hop : op.toNat ∈ illegalOpcodes) : i ∈ Instr.illegals := by
  obtain ⟨j, hj, he⟩ := exists_illegal_encode hop
  have hback := decodeOfEncode j tail
  rw [he, byteOf_toNat_self, List.singleton_append, h] at hback
  cases hback
  exact hj

/-- Settles O3: three bytes hold any instruction, and the illegal ones are the undefined opcodes alone. -/
theorem decodeIsTotalAndElevenOpcodesAreIllegal : Obligations.DecodeIsTotalAndElevenOpcodesAreIllegal := by
  intro b0 b1 b2 rest
  have h := decode_of_three b0 b1 b2 rest
  obtain ⟨h1, h3⟩ := decodeWindow_bounds b0 b1 b2
  refine ⟨_, _, h1, h3, h, ⟨fun hi => (undefinedOpcode_of_decode_illegal h hi).1, mem_illegals_of_decode h⟩, fun hi => ?_⟩
  have hlen := congrArg List.length (undefinedOpcode_of_decode_illegal h hi).2
  rw [List.length_drop] at hlen
  simp only [List.length_cons] at hlen
  omega

end Sys2Proof
end

section
/-! SUPPORT. The loads: each instruction's one spelling, what each shared load or store does as one update, and the laws of
register and pair writes (R21, R144, R145, R170 to R190, R200 to R202). -/

namespace Sys2Proof

open Sys2Proof.Machine

/-! ## Encodings -/

/-- What the encoder writes for an instruction decodes to it with nothing left over. -/
theorem decode_of_encode {i : Instr} {bs : List Byte} (h : encode i = bs) : decode bs = .ok (i, []) := by
  have hback := decodeOfEncode i []
  rwa [List.append_nil, h] at hback

/-- The encoder decides an encoding: the decoder follows. -/
theorem assembles_of_encode {i : Instr} {bs : List Byte} (h : encode i = bs) : Assembles i bs := ⟨h, decode_of_encode h⟩

/-- A 16-bit immediate is encoded low byte first (R146). -/
theorem assembles_imm16 {i : Instr} {op : Byte} {nn : Word} (h : encode i = [op, loByte nn, hiByte nn]) :
    Assembles i [op, byteOf (nn.toNat % 256), byteOf (nn.toNat / 256)] :=
  assembles_of_encode (by rw [h, loByte_eq, hiByte_eq])

/-- `LD r,r'` is `01dddsss` (R170). -/
theorem encode_ldRR (dst src : Reg8) : encode (.ldRR dst src) = [byteOf (0x40 + 8 * dst.code + src.code)] := by
  cases dst <;> cases src <;> rfl

/-- `LD r,n` is `00ddd110 n` (R171). -/
theorem encode_ldRI (n : Byte) (dst : Reg8) : encode (.ldRI n dst) = [byteOf (0x06 + 8 * dst.code), n] := by
  cases dst <;> rfl

/-- `LD r,(HL)` is `01ddd110` (R172). -/
theorem encode_ldRM (dst : Reg8) : encode (.ldRM dst) = [byteOf (0x46 + 8 * dst.code)] := by
  cases dst <;> rfl

/-- `LD (HL),r` is `01110sss` (R173). -/
theorem encode_ldMR (src : Reg8) : encode (.ldMR src) = [byteOf (0x70 + src.code)] := by
  cases src <;> rfl

/-- `LD rr,nn` is `00rr0001 lo hi` (R200). -/
theorem encode_ldPI (nn : Word) (rr : Reg16) :
    encode (.ldPI nn rr) = [byteOf (0x01 + 16 * rr.code), loByte nn, hiByte nn] := by
  cases rr <;> rfl

/-- Settles O4: each word is what the encoder writes for its instruction. -/
theorem sampleWordsDecode : Obligations.SampleWordsDecode :=
  ⟨decode_of_encode rfl, decode_of_encode rfl, decode_of_encode rfl, decode_of_encode rfl, decode_of_encode rfl,
    decode_of_encode rfl, decode_of_encode rfl, decode_of_encode rfl, decode_of_encode rfl, decode_of_encode rfl⟩

end Sys2Proof

namespace Sys2Proof.Machine

/-! ## Registers and pairs -/

/-- A register write is read back there and nowhere else (R144). -/
theorem Regs.get_set (r : Regs) (dst src : Reg8) (v : Byte) :
    (r.set dst v).get src = if src = dst then v else r.get src := by
  cases dst <;> cases src <;> rfl

/-- Writing a register operand leaves F, SP and PC. -/
theorem Regs.set_frame (r : Regs) (dst : Reg8) (v : Byte) :
    (r.set dst v).f = r.f ∧ (r.set dst v).sp = r.sp ∧ (r.set dst v).pc = r.pc := by
  cases dst <;> exact ⟨rfl, rfl, rfl⟩

/-- A pair write is read back there and nowhere else: the pairs share no register (R21, R145). -/
theorem Regs.get16_set16 (r : Regs) (p p' : Reg16) (v : Word) :
    (r.set16 p v).get16 p' = if p' = p then v else r.get16 p' := by
  cases p <;> cases p' <;> simp [Regs.set16, Regs.get16]

/-- Writing a pair leaves A, F and PC. -/
theorem Regs.set16_frame (r : Regs) (p : Reg16) (v : Word) :
    (r.set16 p v).a = r.a ∧ (r.set16 p v).f = r.f ∧ (r.set16 p v).pc = r.pc := by
  cases p <;> exact ⟨rfl, rfl, rfl⟩

/-! ## The shared loads and stores, each as one update -/

/-- `r8[dst] <- r8[src]` (R170). -/
theorem ldRegReg_eq (dst src : Reg8) (s : State) :
    ldRegReg dst src s = s.after (s.regs.set dst (s.regs.get src)) s.bus 4 := rfl

/-- `r8[dst] <- imm8` (R171). -/
theorem ldRegImm_eq (dst : Reg8) (n : Byte) (s : State) : ldRegImm dst n s = s.after (s.regs.set dst n) s.bus 8 := rfl

/-- `r8[dst] <- MemRead(HL, 1)` (R172). -/
theorem ldRegMem_eq (dst : Reg8) (s : State) :
    ldRegMem dst s = s.after (s.regs.set dst (s.read (joinBytes s.regs.h s.regs.l))) s.bus 8 := rfl

/-- `MemWrite(HL, 1, r8[src])` (R173). -/
theorem ldMemReg_eq (src : Reg8) (s : State) :
    ldMemReg src s = s.after s.regs (s.bus.write (joinBytes s.regs.h s.regs.l) (s.regs.get src)) 8 := rfl

/-- `MemWrite(HL, 1, imm8)` (R174). -/
theorem ldMemImm_eq (n : Byte) (s : State) :
    ldMemImm n s = s.after s.regs (s.bus.write (joinBytes s.regs.h s.regs.l) n) 12 := rfl

/-- `A <- MemRead(addr, 1)` (R175, R176, R179, R181, R183). -/
theorem loadA_eq (addr : Word) (n : Nat) (s : State) :
    loadA addr n s = s.after { s.regs with a := s.read addr } s.bus n := rfl

/-- `MemWrite(addr, 1, A)` (R177, R178, R180, R182, R184). -/
theorem storeA_eq (addr : Word) (n : Nat) (s : State) :
    storeA addr n s = s.after s.regs (s.bus.write addr s.regs.a) n := rfl

/-- `A <- MemRead(HL, 1); HL <- HL + delta` (R186, R188). -/
theorem loadAHl_eq (delta : Word) (s : State) :
    loadAHl delta s =
      s.after { s.regs.set16 .hl (joinBytes s.regs.h s.regs.l + delta) with a := s.read (joinBytes s.regs.h s.regs.l) }
        s.bus 8 := rfl

/-- `MemWrite(HL, 1, A); HL <- HL + delta` (R185, R187). -/
theorem storeAHl_eq (delta : Word) (s : State) :
    storeAHl delta s =
      s.after (s.regs.set16 .hl (joinBytes s.regs.h s.regs.l + delta))
        (s.bus.write (joinBytes s.regs.h s.regs.l) s.regs.a) 8 := rfl

/-- `r16[rr] <- imm16` (R200). -/
theorem ldPairImm_eq (rr : Reg16) (nn : Word) (s : State) :
    ldPairImm rr nn s = s.after (s.regs.set16 rr nn) s.bus 12 := rfl

/-- `MemWrite(imm16, 2, SP)`, low byte first (R201). -/
theorem ldMemSp_eq (nn : Word) (s : State) :
    ldMemSp nn s =
      s.after s.regs
        ((s.bus.write nn (byteOf (s.regs.sp.toNat % 256))).write (nn + 1) (byteOf (s.regs.sp.toNat / 256))) 20 := by
  rw [← loByte_eq, ← hiByte_eq]
  rfl

/-- `SP <- HL` (R202). -/
theorem ldSpHl_eq (s : State) : ldSpHl s = s.after { s.regs with sp := joinBytes s.regs.h s.regs.l } s.bus 8 := rfl

/-- The high page is 0xFF00 to 0xFFFF (R181 to R184). -/
theorem highPage_eq (n : Byte) : highPage n = BitVec.ofNat 16 (0xFF00 + n.toNat) := by
  apply BitVec.eq_of_toNat_eq
  rw [highPage, joinBytes_toNat, BitVec.toNat_ofNat]
  have hn : n.toNat < 256 := n.isLt
  show 256 * 255 + n.toNat = _
  omega

/-! ## The instructions of a form run the form's meaning -/

/-- The effect of an instruction is the effect of the meaning it runs. -/
theorem exec_eq_of_runs {i : Instr} {s t u : State} (hruns : exec i s = .next t) (heffect : t = u) : exec i s = .next u := by
  rw [hruns, heffect]

/-- `LD r,r'` (R170). -/
theorem exec_ldRR (dst src : Reg8) (s : State) : exec (.ldRR dst src) s = .next (ldRegReg dst src s) := by
  cases dst <;> cases src <;> rfl

/-- `LD r,n` (R171). -/
theorem exec_ldRI (n : Byte) (dst : Reg8) (s : State) : exec (.ldRI n dst) s = .next (ldRegImm dst n s) := by
  cases dst <;> rfl

/-- `LD r,(HL)` (R172). -/
theorem exec_ldRM (dst : Reg8) (s : State) : exec (.ldRM dst) s = .next (ldRegMem dst s) := by
  cases dst <;> rfl

/-- `LD (HL),r` (R173). -/
theorem exec_ldMR (src : Reg8) (s : State) : exec (.ldMR src) s = .next (ldMemReg src s) := by
  cases src <;> rfl

/-- `LD rr,nn` (R200). -/
theorem exec_ldPI (nn : Word) (rr : Reg16) (s : State) : exec (.ldPI nn rr) s = .next (ldPairImm rr nn s) := by
  cases rr <;> rfl

/-! ## The obligations -/

/-- Settles O14: each form has one encoding and one meaning, and a pair is two registers no other pair shares. -/
theorem registerAndImmediateLoads : Obligations.RegisterAndImmediateLoads :=
  ⟨fun dst src s =>
      ⟨assembles_of_encode (encode_ldRR dst src), exec_eq_of_runs (exec_ldRR dst src s) (ldRegReg_eq dst src s)⟩,
    fun dst n s => ⟨assembles_of_encode (encode_ldRI n dst), exec_eq_of_runs (exec_ldRI n dst s) (ldRegImm_eq dst n s)⟩,
    fun rr nn s => ⟨assembles_imm16 (encode_ldPI nn rr), exec_eq_of_runs (exec_ldPI nn rr s) (ldPairImm_eq rr nn s)⟩,
    fun s => ⟨assembles_of_encode rfl, exec_eq_of_runs rfl (ldSpHl_eq s)⟩,
    fun r dst src v => ⟨r.get_set dst src v, r.set_frame dst v⟩,
    fun r p p' v => ⟨r.get16_set16 p p' v, r.set16_frame p v⟩⟩

/-- Settles O15: `LD r,(HL)` by its form, the loads of A by `loadA` at each address. -/
theorem loadsFromMemory : Obligations.LoadsFromMemory :=
  ⟨fun dst s => ⟨assembles_of_encode (encode_ldRM dst), exec_eq_of_runs (exec_ldRM dst s) (ldRegMem_eq dst s)⟩,
    fun s => ⟨assembles_of_encode rfl, exec_eq_of_runs rfl (loadA_eq (s.reg16 .bc) 8 s)⟩,
    fun s => ⟨assembles_of_encode rfl, exec_eq_of_runs rfl (loadA_eq (s.reg16 .de) 8 s)⟩,
    fun nn s => ⟨assembles_imm16 rfl, exec_eq_of_runs rfl (loadA_eq nn 16 s)⟩,
    fun n s => ⟨assembles_of_encode rfl, exec_eq_of_runs rfl (by rw [loadA_eq, highPage_eq])⟩,
    fun s => ⟨assembles_of_encode rfl, exec_eq_of_runs rfl (by rw [loadA_eq, highPage_eq])⟩⟩

/-- Settles O16: the stores at HL by their forms, the stores of A by `storeA` at each address, and SP as a word. -/
theorem storesToMemory : Obligations.StoresToMemory :=
  ⟨fun src s => ⟨assembles_of_encode (encode_ldMR src), exec_eq_of_runs (exec_ldMR src s) (ldMemReg_eq src s)⟩,
    fun n s => ⟨assembles_of_encode rfl, exec_eq_of_runs rfl (ldMemImm_eq n s)⟩,
    fun s => ⟨assembles_of_encode rfl, exec_eq_of_runs rfl (storeA_eq (s.reg16 .bc) 8 s)⟩,
    fun s => ⟨assembles_of_encode rfl, exec_eq_of_runs rfl (storeA_eq (s.reg16 .de) 8 s)⟩,
    fun nn s => ⟨assembles_imm16 rfl, exec_eq_of_runs rfl (storeA_eq nn 16 s)⟩,
    fun n s => ⟨assembles_of_encode rfl, exec_eq_of_runs rfl (by rw [storeA_eq, highPage_eq])⟩,
    fun s => ⟨assembles_of_encode rfl, exec_eq_of_runs rfl (by rw [storeA_eq, highPage_eq])⟩,
    fun nn s => ⟨assembles_imm16 rfl, exec_eq_of_runs rfl (ldMemSp_eq nn s)⟩⟩

/-- Settles O17: one meaning loads and one stores, each moving HL by its `delta`; a step down adds -1. -/
theorem loadsAndStoresThatMoveHl : Obligations.LoadsAndStoresThatMoveHl := by
  intro s
  rw [BitVec.sub_eq_add_neg]
  exact ⟨assembles_of_encode rfl, assembles_of_encode rfl, assembles_of_encode rfl, assembles_of_encode rfl,
    exec_eq_of_runs rfl (storeAHl_eq 1 s), exec_eq_of_runs rfl (loadAHl_eq 1 s),
    exec_eq_of_runs rfl (storeAHl_eq (-1) s), exec_eq_of_runs rfl (loadAHl_eq (-1) s)⟩

end Sys2Proof.Machine
end

section
/-! SUPPORT. The stack and SP (R203 to R207, R243): each meaning as one update, a pop after a push, and the push by which an
interrupt is taken (R330, R333 to R335). -/

namespace Sys2Proof.Machine

/-! ## SP plus a signed displacement -/

/-- Adding a sign-extended byte adds its signed value modulo 2^16 (R10, R11). -/
theorem add_signExtend16_toNat (v : Word) (e : Byte) :
    ((v + signExtend16 e).toNat : Int) = ((v.toNat : Int) + e.toInt) % 65536 := by
  have hsigned : e.toInt = if 2 * (signExtend16 e).toNat < 65536 then ((signExtend16 e).toNat : Int)
      else (signExtend16 e).toNat - 65536 := by
    rw [← signExtend16_toInt]
    exact BitVec.toInt_eq_toNat_cond _
  rw [BitVec.toNat_add, hsigned]
  split <;> omega

/-- `HL <- SP + sext_16(imm8)` with its flags (R203). -/
theorem ldHlSpe_eq (e : Byte) (s : State) :
    ldHlSpe e s =
      s.after { s.regs.set16 .hl (addSigned s.regs.sp e).1 with f := (addSigned s.regs.sp e).2 } s.bus 12 := rfl

/-- `SP <- SP + sext_16(imm8)` with its flags (R243). -/
theorem addSpe_eq (e : Byte) (s : State) :
    addSpe e s = s.after { s.regs with sp := (addSigned s.regs.sp e).1, f := (addSigned s.regs.sp e).2 } s.bus 16 := rfl

/-- Settles O18: both instructions take value and flags from `addSigned`. -/
theorem signedDisplacementsOnSp : Obligations.SignedDisplacementsOnSp := fun e s =>
  ⟨(addSigned s.regs.sp e).2, (addSigned s.regs.sp e).1, add_signExtend16_toNat s.regs.sp e, flagsAre_mkFlags _ _ _ _,
    assembles_of_encode rfl, assembles_of_encode rfl, exec_eq_of_runs rfl (ldHlSpe_eq e s), exec_eq_of_runs rfl (addSpe_eq e s)⟩

/-! ## PUSH and POP -/

/-- `PUSH rr` is `11rr0101` (R206). -/
theorem encode_push (rr : StackPair) : encode (.push rr) = [byteOf (0xC5 + 16 * rr.code)] := by
  cases rr <;> rfl

/-- `POP rr` is `11rr0001` (R207). -/
theorem encode_pop (rr : StackPair) : encode (.pop rr) = [byteOf (0xC1 + 16 * rr.code)] := by
  cases rr <;> rfl

/-- `PUSH rr` (R206). -/
theorem exec_push (rr : StackPair) (s : State) : exec (.push rr) s = .next (pushPair rr s) := by
  cases rr <;> rfl

/-- `POP rr` (R207). -/
theorem exec_pop (rr : StackPair) (s : State) : exec (.pop rr) s = .next (popPair rr s) := by
  cases rr <;> rfl

/-- `push16(r16s[rr])` (R204, R206). -/
theorem pushPair_eq (rr : StackPair) (s : State) :
    pushPair rr s =
      s.after { s.regs with sp := s.regs.sp - 2 }
        ((s.bus.write (s.regs.sp - 2) (loByte (s.regs.getStack rr))).write (s.regs.sp - 1)
          (hiByte (s.regs.getStack rr))) 16 := by
  rw [pushPair, State.push16_eq]
  rfl

/-- `r16s[rr] <- pop16()` (R205, R207). -/
theorem popPair_eq (rr : StackPair) (s : State) :
    popPair rr s = s.after ({ s.regs with sp := s.regs.sp + 2 }.setStack rr s.top16) s.bus 12 := rfl

/-- Settles O19: PUSH stores the halves of its pair, and those are the pair's two registers. -/
theorem pushStoresLowByteAtNewSp : Obligations.PushStoresLowByteAtNewSp := by
  intro rr s
  refine ⟨hiByte (s.regs.getStack rr), loByte (s.regs.getStack rr), ?_, assembles_of_encode (encode_push rr),
    exec_eq_of_runs (exec_push rr s) (pushPair_eq rr s)⟩
  cases rr <;> simp [Regs.getStack]

/-- Settles O20: POP writes the halves of the word on top into its pair, for AF with the low nibble masked. -/
theorem popLoadsLowByteAtSp : Obligations.PopLoadsLowByteAtSp := by
  intro s
  have hhi : hiByte s.top16 = s.read (s.regs.sp + 1) := hiByte_joinBytes _ _
  have hlo : loByte s.top16 = s.read s.regs.sp := loByte_joinBytes _ _
  refine ⟨fun rr => assembles_of_encode (encode_pop rr), ?_, ?_, ?_,
    maskFlags (s.read s.regs.sp), flagsAre_maskFlags _, ?_⟩
  all_goals
    rw [← hhi, ← hlo]
    exact exec_eq_of_runs (exec_pop _ s) (popPair_eq _ s)

/-! ## A pop after a push -/

/-- A word pushed onto plain storage is the word on top (R204, R205). -/
theorem State.top16_push16 {s : State} (hb : s.bus.Ok) (hlo : s.bus.storesPlainly (s.regs.sp - 2) = true)
    (hhi : s.bus.storesPlainly (s.regs.sp - 1) = true) (v : Word) : (s.push16 v).top16 = v := by
  rw [← sub_two_add_one] at hhi
  have hplain : ∀ w ∈ s.pushStores v, s.bus.storesPlainly w.1 = true :=
    List.forall_mem_cons.2 ⟨hlo, List.forall_mem_singleton.2 hhi⟩
  have hback := (Bus.read_writes_of_storesPlainly hb hplain (s.wordStores_distinct _ v)).1
  obtain ⟨hlow, htail⟩ := List.forall_mem_cons.1 hback
  have hhigh := List.forall_mem_singleton.1 htail
  calc (s.push16 v).top16 = joinBytes (hiByte v) (loByte v) := congrArg₂ joinBytes hhigh hlow
    _ = v := joinBytes_hiByte_loByte v

/-- Writing a pair's own value back changes nothing; AF needs the zero low nibble (R24). -/
theorem Regs.setStack_getStack {r : Regs} (hf : r.f.extractLsb' 0 4 = 0) (rr : StackPair) :
    r.setStack rr (r.getStack rr) = r := by
  cases rr <;> simp [Regs.setStack, Regs.getStack, maskFlags_of_lowNibble hf]

/-- Settles O21: the pop finds the word pushed, puts it back into its pair, and moves SP back up. -/
theorem popUndoesPush : Obligations.PopUndoesPush := by
  intro rr s hb hlo hhi hf
  refine ⟨pushPair rr s, popPair rr (pushPair rr s), exec_push rr s, exec_pop rr _, ?_, rfl⟩
  have htop : (pushPair rr s).top16 = s.regs.getStack rr := State.top16_push16 hb hlo hhi _
  have hsp : { s.regs with sp := s.regs.sp - 2 + 2 } = s.regs := by rw [sub_two_add_two]
  calc (popPair rr (pushPair rr s)).regs
      = { s.regs with sp := s.regs.sp - 2 + 2 }.setStack rr (pushPair rr s).top16 := rfl
    _ = s.regs.setStack rr (s.regs.getStack rr) := by rw [hsp, htop]
    _ = s.regs := Regs.setStack_getStack hf rr

/-! ## Taking an interrupt -/

/-- The vector as an integer (R330). -/
theorem Interrupt.vector_eq (i : Interrupt) : i.vector = BitVec.ofNat 16 (0x40 + 8 * i.bit) := by
  cases i <;> rfl

/-- A request to dispatch is pending, so it wakes the CPU (R333). -/
theorem State.wake_of_nextInterrupt {s : State} {i : Interrupt} (h : s.nextInterrupt = some i) :
    s.wake = { s with halted := false } := by
  have hpending : s.pending ≠ 0 := fun h0 => nomatch (State.nextInterrupt_none_of_pending_zero h0).symm.trans h
  rw [State.wake, if_pos hpending]

/-- With IME set the step takes the next interrupt (R333). -/
theorem State.cpuStep_of_nextInterrupt {s : State} {i : Interrupt} (hime : s.ime = true) (h : s.nextInterrupt = some i) :
    s.cpuStep = .next ({ s with halted := false }.takeInterrupt i) := by
  have hd : s.wake.dispatched = some i := by
    rw [State.dispatched, State.wake_ime, if_pos hime, State.nextInterrupt_eq_of_bus s.wake_bus, h]
  rw [State.cpuStep, hd, State.wake_of_nextInterrupt h]

/-- Settles O7: the step takes the interrupt from the state awake, and its vector is the address of R330. -/
theorem dispatchEntersTheHandler : Obligations.DispatchEntersTheHandler := by
  intro s i hime h
  rw [State.cpuStep_of_nextInterrupt hime h, State.takeInterrupt_eq, Interrupt.vector_eq]
  rfl

end Sys2Proof.Machine
end

section
/-! SUPPORT. 8-bit arithmetic and logic (R215 to R232): each computation's result as integers and its flags, the accumulator
operations on their three operand forms, and what DAA makes of a sum. -/

namespace Sys2Proof.Machine

/-! ## Results as integers, and their flags -/

/-- A flag byte whose Z follows a result. -/
theorem flagsAre_mkFlags_isZero (r : Byte) (n h c : Bool) :
    FlagsAre (mkFlags (isZero r) n h c) (decide (r.toNat = 0)) n h c := by
  rw [← isZero_eq]
  exact flagsAre_mkFlags _ n h c

/-- The sum is the low byte of the integer sum (R215, R216, R232). -/
theorem addCarry_toNat (a x : Byte) (c : Bool) :
    (addCarry a x c).1.toNat = (a.toNat + x.toNat + bitNat c) % 256 :=
  BitVec.toNat_ofNat _ 8

/-- The difference is the integer difference modulo 256 (R217, R218, R232). -/
theorem subBorrow_toNat (a x : Byte) (c : Bool) :
    ((subBorrow a x c).1.toNat : Int) = ((a.toNat : Int) - x.toNat - bitNat c) % 256 := by
  rw [subBorrow, BitVec.toNat_ofInt]
  exact Int.toNat_of_nonneg (Int.emod_nonneg _ (by decide))

/-- An increment is by one modulo 256 (R223, R224). -/
theorem incByte_toNat (f v : Byte) : (incByte f v).1.toNat = (v.toNat + 1) % 256 :=
  BitVec.toNat_add v 1

/-- A decrement is by one modulo 256 (R225, R226). -/
theorem decByte_toNat (f v : Byte) : (decByte f v).1.toNat = (v.toNat + 255) % 256 := by
  rw [Nat.add_comm]
  exact BitVec.toNat_sub v 1

/-- A complement is the distance from 255 (R228). -/
theorem cplByte_toNat (f a : Byte) : (cplByte f a).1.toNat = 255 - a.toNat := by
  have hones : a ^^^ 0xFF = ~~~a := BitVec.xor_allOnes
  rw [cplByte, hones, BitVec.toNat_not]

/-! ## The accumulator operations on their three operand forms -/

/-- What an accumulator operation leaves in A, and its flag byte, from A, the operand and the old flags (R215 to R222). -/
def aluResult (a x f : Byte) : AluOp → Byte × Byte
  | .add => addCarry a x false
  | .adc => addCarry a x (flagC f)
  | .sub => subBorrow a x false
  | .sbc => subBorrow a x (flagC f)
  | .and => andLogic a x
  | .xor => xorLogic a x
  | .or  => orLogic a x
  | .cp  => (a, (subBorrow a x false).2)

/-- Every operation and form is encoded as R231 gives it. -/
theorem AluForm.encode_instr (x : AluForm) (op : AluOp) : encode (x.instr op) = x.bytes op := by
  cases x with
  | reg r => cases op <;> cases r <;> rfl
  | mem   => cases op <;> rfl
  | imm n => cases op <;> rfl

/-- Every operation and form writes A and F by the operation's result, at the form's cost (R231). -/
theorem AluForm.exec_instr (x : AluForm) (op : AluOp) (s : State) :
    exec (x.instr op) s =
      .next (s.after { s.regs with
        a := (aluResult s.regs.a (x.value s) s.regs.f op).1
        f := (aluResult s.regs.a (x.value s) s.regs.f op).2 } s.bus x.cost) := by
  cases x with
  | reg r => cases op <;> cases r <;> rfl
  | mem   => cases op <;> rfl
  | imm n => cases op <;> rfl

/-- Settles O22: both are `addCarry`, ADD with no carry in and ADC with the old Cf. -/
theorem addAndAdcAreIntegerSums : Obligations.AddAndAdcAreIntegerSums := by
  intro x op c s hop
  have hresult : aluResult s.regs.a (x.value s) s.regs.f op = addCarry s.regs.a (x.value s) c := by
    rcases hop with ⟨rfl, rfl⟩ | ⟨rfl, rfl⟩ <;> rfl
  refine ⟨(addCarry s.regs.a (x.value s) c).2, (addCarry s.regs.a (x.value s) c).1, addCarry_toNat _ _ c,
    flagsAre_mkFlags_isZero _ _ _ _, assembles_of_encode (x.encode_instr op), ?_⟩
  rw [x.exec_instr, hresult]

/-- Settles O23: all three take their flags from `subBorrow`, and CP alone keeps A. -/
theorem subSbcAndCpAreIntegerDifferences : Obligations.SubSbcAndCpAreIntegerDifferences := by
  intro x op c s hop
  have hresult : aluResult s.regs.a (x.value s) s.regs.f op =
      (if op = .cp then s.regs.a else (subBorrow s.regs.a (x.value s) c).1, (subBorrow s.regs.a (x.value s) c).2) := by
    rcases hop with ⟨rfl | rfl, rfl⟩ | ⟨rfl, rfl⟩ <;> rfl
  refine ⟨(subBorrow s.regs.a (x.value s) c).2, (subBorrow s.regs.a (x.value s) c).1, subBorrow_toNat _ _ c,
    flagsAre_mkFlags_isZero _ _ _ _, assembles_of_encode (x.encode_instr op), ?_⟩
  rw [x.exec_instr, hresult]

/-- Settles O24: the three operations act on each bit, and each sets its own flags. -/
theorem logicOperations : Obligations.LogicOperations := by
  intro x op s hop
  refine ⟨(aluResult s.regs.a (x.value s) s.regs.f op).2, (aluResult s.regs.a (x.value s) s.regs.f op).1, ?bits, ?flags,
    assembles_of_encode (x.encode_instr op), x.exec_instr op s⟩
  case bits =>
    intro i _
    rcases hop with rfl | rfl | rfl
    · exact BitVec.getLsbD_and
    · exact BitVec.getLsbD_xor
    · exact BitVec.getLsbD_or
  case flags =>
    rcases hop with rfl | rfl | rfl <;> exact flagsAre_mkFlags_isZero _ _ _ _

/-! ## INC and DEC -/

/-- `INC r` is `00ddd100` (R223). -/
theorem encode_incR (r : Reg8) : encode (.incR r) = [byteOf (0x04 + 8 * r.code)] := by
  cases r <;> rfl

/-- `DEC r` is `00ddd101` (R225). -/
theorem encode_decR (r : Reg8) : encode (.decR r) = [byteOf (0x05 + 8 * r.code)] := by
  cases r <;> rfl

/-- `INC r` (R223). -/
theorem exec_incR (r : Reg8) (s : State) : exec (.incR r) s = .next (incReg r s) := by
  cases r <;> rfl

/-- `DEC r` (R225). -/
theorem exec_decR (r : Reg8) (s : State) : exec (.decR r) s = .next (decReg r s) := by
  cases r <;> rfl

/-- `r8[dst] <- r8[dst] + 1` with its flags (R223). -/
theorem incReg_eq (r : Reg8) (s : State) :
    incReg r s =
      s.after { s.regs.set r (incByte s.regs.f (s.regs.get r)).1 with f := (incByte s.regs.f (s.regs.get r)).2 }
        s.bus 4 := rfl

/-- `r8[dst] <- r8[dst] - 1` with its flags (R225). -/
theorem decReg_eq (r : Reg8) (s : State) :
    decReg r s =
      s.after { s.regs.set r (decByte s.regs.f (s.regs.get r)).1 with f := (decByte s.regs.f (s.regs.get r)).2 }
        s.bus 4 := rfl

/-- `INC (HL)`: flags and byte written are of the value computed (R224). -/
theorem incMem_eq (s : State) :
    incMem s =
      s.after { s.regs with f := (incByte s.regs.f (s.read (joinBytes s.regs.h s.regs.l))).2 }
        (s.bus.write (joinBytes s.regs.h s.regs.l) (incByte s.regs.f (s.read (joinBytes s.regs.h s.regs.l))).1) 12 := rfl

/-- `DEC (HL)`: flags and byte written are of the value computed (R226). -/
theorem decMem_eq (s : State) :
    decMem s =
      s.after { s.regs with f := (decByte s.regs.f (s.read (joinBytes s.regs.h s.regs.l))).2 }
        (s.bus.write (joinBytes s.regs.h s.regs.l) (decByte s.regs.f (s.read (joinBytes s.regs.h s.regs.l))).1) 12 := rfl

/-- Settles O25: value and flags come from `incByte` or `decByte`, of the register or of the byte at HL. -/
theorem incrementsAndDecrementsOfBytes : Obligations.IncrementsAndDecrementsOfBytes :=
  ⟨fun r s => ⟨_, _, incByte_toNat s.regs.f _, flagsAre_mkFlags_isZero _ _ _ _, assembles_of_encode (encode_incR r),
      exec_eq_of_runs (exec_incR r s) (incReg_eq r s)⟩,
    fun r s => ⟨_, _, decByte_toNat s.regs.f _, flagsAre_mkFlags_isZero _ _ _ _, assembles_of_encode (encode_decR r),
      exec_eq_of_runs (exec_decR r s) (decReg_eq r s)⟩,
    fun s => ⟨_, _, incByte_toNat s.regs.f _, flagsAre_mkFlags_isZero _ _ _ _, assembles_of_encode rfl,
      exec_eq_of_runs rfl (incMem_eq s)⟩,
    fun s => ⟨_, _, decByte_toNat s.regs.f _, flagsAre_mkFlags_isZero _ _ _ _, assembles_of_encode rfl,
      exec_eq_of_runs rfl (decMem_eq s)⟩⟩

/-! ## CPL, SCF and CCF -/

/-- Settles O28: each is one flag byte, for CPL with the complement. -/
theorem complementAndCarryFlagOperations : Obligations.ComplementAndCarryFlagOperations := fun s =>
  ⟨⟨_, _, cplByte_toNat s.regs.f s.regs.a, flagsAre_mkFlags _ _ _ _, assembles_of_encode rfl, rfl⟩,
    ⟨_, flagsAre_mkFlags _ _ _ _, assembles_of_encode rfl, rfl⟩,
    ⟨_, flagsAre_mkFlags _ _ _ _, assembles_of_encode rfl, rfl⟩⟩

/-! ## DAA -/

/-- The adjustment's two parts share no bit, so it is their sum (R227). -/
theorem daaAdjust_toNat (f a : Byte) :
    (daaAdjust f a).toNat = 6 * bitNat (daaLow f a) + 96 * bitNat (daaHigh f a) := by
  unfold daaAdjust
  cases daaLow f a <;> cases daaHigh f a <;> rfl

/-- The adjustment is subtracted after a subtraction and added otherwise, modulo 256 (R227). -/
theorem daaByte_toNat (f a : Byte) :
    ((daaByte f a).1.toNat : Int) =
      (if flagN f = true then (a.toNat : Int) - (6 * bitNat (daaLow f a) + 96 * bitNat (daaHigh f a) : Nat)
       else (a.toNat : Int) + (6 * bitNat (daaLow f a) + 96 * bitNat (daaHigh f a) : Nat)) % 256 := by
  rw [← daaAdjust_toNat]
  have hadjust : (daaAdjust f a).toNat < 256 := (daaAdjust f a).isLt
  unfold daaByte
  split
  · rw [BitVec.toNat_sub]
    omega
  · rw [BitVec.toNat_add]
    omega

/-- `DAA` (R227). -/
theorem exec_daa (s : State) :
    exec .daa s =
      .next (s.after { s.regs with a := (daaByte s.regs.f s.regs.a).1, f := (daaByte s.regs.f s.regs.a).2 } s.bus 4) :=
  rfl

/-- Settles O26: the tests are `daaLow` and `daaHigh`, the second of which is the new Cf. -/
theorem daaAdjusts : Obligations.DaaAdjusts := fun s =>
  ⟨(daaByte s.regs.f s.regs.a).2, (daaByte s.regs.f s.regs.a).1, daaLow s.regs.f s.regs.a, daaHigh s.regs.f s.regs.a,
    rfl, rfl, daaByte_toNat s.regs.f s.regs.a, flagsAre_mkFlags_isZero _ _ _ _, assembles_of_encode rfl, exec_daa s⟩

/-! ## DAA after a sum -/

/-- A bit as an integer is at most 1. -/
theorem bitNat_le_one (c : Bool) : bitNat c ≤ 1 := by cases c <;> decide

/-- A test's outcome as an integer is 1 exactly where the test holds. -/
theorem bitNat_decide (p : Prop) [Decidable p] : bitNat (decide p) = if p then 1 else 0 := by
  simp [bitNat]

/-- A sum clears N (R215, R216). -/
theorem flagN_addCarry (a x : Byte) (c : Bool) : flagN (addCarry a x c).2 = false := flagN_mkFlags _ _ _ _

/-- Hf of a sum is its carry out of bit 3 (R215, R216). -/
theorem flagH_addCarry (a x : Byte) (c : Bool) :
    flagH (addCarry a x c).2 = decide (a.toNat % 16 + x.toNat % 16 + bitNat c > 0xF) := flagH_mkFlags _ _ _ _

/-- Cf of a sum is its carry out of bit 7 (R215, R216). -/
theorem flagC_addCarry (a x : Byte) (c : Bool) :
    flagC (addCarry a x c).2 = decide (a.toNat + x.toNat + bitNat c > 0xFF) := flagC_mkFlags _ _ _ _

/-- After a sum the low test asks whether the low digits reached ten: Hf covers a low nibble that wrapped (R227). -/
theorem daaLow_addCarry (a x : Byte) (c : Bool) :
    daaLow (addCarry a x c).2 (addCarry a x c).1 = decide (a.toNat % 16 + x.toNat % 16 + bitNat c > 9) := by
  have hc := bitNat_le_one c
  rw [daaLow, flagN_addCarry, flagH_addCarry, nibble, addCarry_toNat, Bool.not_false, Bool.true_and, ← Bool.decide_or,
    decide_eq_decide]
  omega

/-- After a sum the high test asks whether the sum passed 0x99: Cf covers a byte that wrapped (R227). -/
theorem daaHigh_addCarry (a x : Byte) (c : Bool) :
    daaHigh (addCarry a x c).2 (addCarry a x c).1 = decide (a.toNat + x.toNat + bitNat c > 0x99) := by
  rw [daaHigh, flagN_addCarry, flagC_addCarry, addCarry_toNat, Bool.not_false, Bool.true_and, ← Bool.decide_or,
    decide_eq_decide]
  omega

/-- What DAA leaves of a sum, as an integer (R215, R216, R227). -/
theorem daaByte_addCarry_toNat (a x : Byte) (c : Bool) :
    (daaByte (addCarry a x c).2 (addCarry a x c).1).1.toNat =
      (a.toNat + x.toNat + bitNat c + 6 * bitNat (decide (a.toNat % 16 + x.toNat % 16 + bitNat c > 9)) +
        96 * bitNat (decide (a.toNat + x.toNat + bitNat c > 0x99))) % 256 := by
  have hdaa := daaByte_toNat (addCarry a x c).2 (addCarry a x c).1
  rw [flagN_addCarry, if_neg Bool.false_ne_true, daaLow_addCarry, daaHigh_addCarry, addCarry_toNat] at hdaa
  omega

/-- Cf after DAA of a sum (R227). -/
theorem flagC_daaByte_addCarry (a x : Byte) (c : Bool) :
    flagC (daaByte (addCarry a x c).2 (addCarry a x c).1).2 = decide (a.toNat + x.toNat + bitNat c > 0x99) :=
  (flagC_mkFlags _ _ _ _).trans (daaHigh_addCarry a x c)

/-- The adjusted sum of two BCD bytes is the BCD of the decimal sum modulo 100, and Cf is its hundred. Each of the four cases is
a carry or none out of each decimal digit. -/
theorem daaByte_addCarry_decimal {a x : Byte} (c : Bool) (ha : isBcd a = true) (hx : isBcd x = true) :
    isBcd (daaByte (addCarry a x c).2 (addCarry a x c).1).1 = true ∧
    decimalOf (daaByte (addCarry a x c).2 (addCarry a x c).1).1 +
        100 * bitNat (flagC (daaByte (addCarry a x c).2 (addCarry a x c).1).2) =
      decimalOf a + decimalOf x + bitNat c := by
  have hc := bitNat_le_one c
  have hr := daaByte_addCarry_toNat a x c
  simp only [isBcd, Bool.and_eq_true, decide_eq_true_eq] at ha hx ⊢
  simp only [decimalOf, flagC_daaByte_addCarry, bitNat_decide] at hr ⊢
  split_ifs at hr ⊢ <;> omega

/-- Settles O27: ADD or ADC leaves `addCarry`'s byte and flags, and DAA adjusts exactly those. -/
theorem daaMakesDecimalSums : Obligations.DaaMakesDecimalSums := by
  intro n op c s hop ha hn
  have hresult : aluResult s.regs.a n s.regs.f op = addCarry s.regs.a n c := by
    rcases hop with ⟨rfl, rfl⟩ | ⟨rfl, rfl⟩ <;> rfl
  have hsum := (AluForm.imm n).exec_instr op s
  rw [AluForm.value, hresult] at hsum
  exact ⟨_, _, hsum, exec_daa _, daaByte_addCarry_decimal c ha hn⟩

end Sys2Proof.Machine
end

section
/-! SUPPORT. 16-bit arithmetic (R240 to R242): each meaning as one update, and its result as an integer. -/

namespace Sys2Proof.Machine

/-! ## Encodings -/

/-- `ADD HL,rr` is `00rr1001` (R240). -/
theorem encode_addHL (rr : Reg16) : encode (.addHL rr) = [byteOf (0x09 + 16 * rr.code)] := by
  cases rr <;> rfl

/-- `INC rr` is `00rr0011` (R241). -/
theorem encode_incP (rr : Reg16) : encode (.incP rr) = [byteOf (0x03 + 16 * rr.code)] := by
  cases rr <;> rfl

/-- `DEC rr` is `00rr1011` (R242). -/
theorem encode_decP (rr : Reg16) : encode (.decP rr) = [byteOf (0x0B + 16 * rr.code)] := by
  cases rr <;> rfl

/-! ## The instructions of a form run the form's meaning -/

/-- `ADD HL,rr` (R240). -/
theorem exec_addHL (rr : Reg16) (s : State) : exec (.addHL rr) s = .next (addHl rr s) := by
  cases rr <;> rfl

/-- `INC rr` (R241). -/
theorem exec_incP (rr : Reg16) (s : State) : exec (.incP rr) s = .next (incPair rr s) := by
  cases rr <;> rfl

/-- `DEC rr` (R242). -/
theorem exec_decP (rr : Reg16) (s : State) : exec (.decP rr) s = .next (decPair rr s) := by
  cases rr <;> rfl

/-! ## The shared meanings, each as one update -/

/-- `HL <- HL + r16[rr]` with its flags, both from the old HL (R240). -/
theorem addHl_eq (rr : Reg16) (s : State) :
    addHl rr s =
      s.after { s.regs.set16 .hl (addWords s.regs.f (joinBytes s.regs.h s.regs.l) (s.regs.get16 rr)).1 with
        f := (addWords s.regs.f (joinBytes s.regs.h s.regs.l) (s.regs.get16 rr)).2 } s.bus 8 := rfl

/-- `r16[rr] <- r16[rr] + 1` (R241). -/
theorem incPair_eq (rr : Reg16) (s : State) :
    incPair rr s = s.after (s.regs.set16 rr (s.regs.get16 rr + 1)) s.bus 8 := rfl

/-- `r16[rr] <- r16[rr] - 1` (R242). -/
theorem decPair_eq (rr : Reg16) (s : State) :
    decPair rr s = s.after (s.regs.set16 rr (s.regs.get16 rr - 1)) s.bus 8 := rfl

/-! ## Results as integers, and their flags -/

/-- The sum is the integer sum modulo 2^16 (R240). -/
theorem addWords_toNat (f : Byte) (hl v : Word) : (addWords f hl v).1.toNat = (hl.toNat + v.toNat) % 65536 :=
  BitVec.toNat_add hl v

/-- The flags of a 16-bit sum: the carries out of bits 11 and 15, Z as it was (R240). -/
theorem flagsAre_addWords (f : Byte) (hl v : Word) :
    FlagsAre (addWords f hl v).2 (f.getLsbD 7) false
      (decide (hl.toNat % 4096 + v.toNat % 4096 > 0x0FFF)) (decide (hl.toNat + v.toNat > 0xFFFF)) :=
  flagsAre_mkFlags _ _ _ _

/-- A decrement adds 2^16 - 1 modulo 2^16 (R242). -/
theorem word_sub_one_toNat (v : Word) : (v - 1).toNat = (v.toNat + 65535) % 65536 := by
  rw [Nat.add_comm]
  exact BitVec.toNat_sub v 1

/-! ## The obligations -/

/-- Settles O29: value and flags are `addWords` of the old HL and the operand. -/
theorem addHlIsA16BitSum : Obligations.AddHlIsA16BitSum := fun rr s =>
  ⟨_, _, addWords_toNat s.regs.f _ _, flagsAre_addWords _ _ _, assembles_of_encode (encode_addHL rr),
    exec_eq_of_runs (exec_addHL rr s) (addHl_eq rr s)⟩

/-- Settles O30: a pair is written with its value plus or minus one, and F is no part of the write. -/
theorem incrementsAndDecrementsOfPairs : Obligations.IncrementsAndDecrementsOfPairs :=
  ⟨fun rr s => ⟨_, BitVec.toNat_add _ 1, assembles_of_encode (encode_incP rr),
      exec_eq_of_runs (exec_incP rr s) (incPair_eq rr s)⟩,
    fun rr s => ⟨_, word_sub_one_toNat _, assembles_of_encode (encode_decP rr),
      exec_eq_of_runs (exec_decP rr s) (decPair_eq rr s)⟩⟩

end Sys2Proof.Machine
end

section
/-! SUPPORT. Rotates, shifts and single bits (R250 to R265): the result of each operation as an integer, and every CB-prefixed
instruction as one update of its operand, register or byte at HL. -/

namespace Sys2Proof.Machine

/-! ## Bits and slices as integers -/

/-- Two slices joined: the high one counts `2 ^ n` times its value. -/
theorem toNat_append_eq {m n : Nat} (hi : BitVec m) (lo : BitVec n) : (hi ++ lo).toNat = 2 ^ n * hi.toNat + lo.toNat := by
  rw [BitVec.toNat_append, Nat.shiftLeft_eq, Nat.mul_comm, ← Nat.two_pow_add_eq_or_of_lt lo.isLt]

/-- One bit as an integer. -/
theorem toNat_ofBool_eq (c : Bool) : (BitVec.ofBool c).toNat = bitNat c := by cases c <;> rfl

/-- The top bit of a byte is its quotient by 128. -/
theorem bitOf_seven (v : Byte) : bitOf v 7 = decide (v.toNat / 128 = 1) := by
  have hv : v.toNat < 256 := v.isLt
  rw [bitOf, ← BitVec.testBit_toNat, Nat.testBit_eq_decide_div_mod_eq, decide_eq_decide]
  omega

/-- The lowest bit of a byte is its parity. -/
theorem bitOf_zero (v : Byte) : bitOf v 0 = decide (v.toNat % 2 = 1) := by
  rw [bitOf, ← BitVec.testBit_toNat, Nat.testBit_eq_decide_div_mod_eq, Nat.pow_zero, Nat.div_one]

/-- The top bit as an integer. -/
theorem bitNat_bitOf_seven (v : Byte) : bitNat (bitOf v 7) = v.toNat / 128 := by
  have hv : v.toNat < 256 := v.isLt
  rw [bitOf_seven, bitNat_decide]
  split <;> omega

/-- The lowest bit as an integer. -/
theorem bitNat_bitOf_zero (v : Byte) : bitNat (bitOf v 0) = v.toNat % 2 := by
  rw [bitOf_zero, bitNat_decide]
  split <;> omega

/-- A byte moved up by one doubles modulo 256, and the bit moved in is added. -/
theorem moveUp_toNat (v : Byte) (c : Bool) :
    (v.extractLsb' 0 7 ++ BitVec.ofBool c : Byte).toNat = 2 * v.toNat % 256 + bitNat c := by
  rw [toNat_append_eq, toNat_ofBool_eq, BitVec.extractLsb'_toNat, Nat.shiftRight_zero]
  omega

/-- A byte moved down by one is halved, and the bit moved in counts 128. -/
theorem moveDown_toNat (v : Byte) (c : Bool) :
    (BitVec.ofBool c ++ v.extractLsb' 1 7 : Byte).toNat = v.toNat / 2 + 128 * bitNat c := by
  have hv : v.toNat < 256 := v.isLt
  rw [toNat_append_eq, toNat_ofBool_eq, BitVec.extractLsb'_toNat, Nat.shiftRight_eq_div_pow]
  omega

/-- A byte's nibbles exchanged (R261). -/
theorem swapNibbles_toNat (v : Byte) (c : Bool) : (swapNibbles v c).1.toNat = 16 * (v.toNat % 16) + v.toNat / 16 := by
  have hv : v.toNat < 256 := v.isLt
  rw [swapNibbles, toNat_append_eq, BitVec.extractLsb'_toNat, BitVec.extractLsb'_toNat, Nat.shiftRight_zero,
    Nat.shiftRight_eq_div_pow]
  omega

/-! ## The eight rotates and shifts -/

/-- The model's function for each operation (R255 to R262). -/
def rotFn : RotOp → RotFn
  | .rlc  => rotLeft
  | .rrc  => rotRight
  | .rl   => rotLeftCarry
  | .rr   => rotRightCarry
  | .sla  => shiftLeft
  | .sra  => shiftRightArith
  | .swap => swapNibbles
  | .srl  => shiftRight

/-- The new byte is the integer result: a move up or down by one with the operation's bit moved in, or SWAP. -/
theorem rotFn_toNat (op : RotOp) (v : Byte) (c : Bool) : (rotFn op v c).1.toNat = (rotResult op v.toNat c).1 := by
  cases op with
  | rlc  => exact (moveUp_toNat v _).trans (congrArg (2 * v.toNat % 256 + ·) (bitNat_bitOf_seven v))
  | rrc  => exact (moveDown_toNat v _).trans (congrArg (v.toNat / 2 + 128 * ·) (bitNat_bitOf_zero v))
  | rl   => exact moveUp_toNat v c
  | rr   => exact moveDown_toNat v c
  | sla  => exact moveUp_toNat v false
  | sra  => exact (moveDown_toNat v _).trans (congrArg (v.toNat / 2 + 128 * ·) (bitNat_bitOf_seven v))
  | swap => exact swapNibbles_toNat v c
  | srl  => exact moveDown_toNat v false

/-- The bit moved out is the top bit of a move up, the lowest of a move down, and 0 for SWAP. -/
theorem rotFn_out (op : RotOp) (v : Byte) (c : Bool) : (rotFn op v c).2 = (rotResult op v.toNat c).2 := by
  cases op with
  | rlc | rl | sla       => exact bitOf_seven v
  | rrc | rr | sra | srl => exact bitOf_zero v
  | swap                 => rfl

/-- The accumulator rotates, by their operation and their opcode (R250 to R253). -/
theorem accumulatorRotate_of_mem {op : RotOp} {i : Instr} {b : Byte}
    (h : (op, i, b) ∈ [(RotOp.rlc, Instr.rlca, 0x07#8), (.rrc, .rrca, 0x0F#8), (.rl, .rla, 0x17#8), (.rr, .rra, 0x1F#8)]) :
    encode i = [b] ∧ ∀ s, exec i s = .next (rotAcc (rotFn op) s) := by
  simp only [List.mem_cons, List.not_mem_nil, or_false, Prod.mk.injEq] at h
  rcases h with ⟨rfl, rfl, rfl⟩ | ⟨rfl, rfl, rfl⟩ | ⟨rfl, rfl, rfl⟩ | ⟨rfl, rfl, rfl⟩ <;> exact ⟨rfl, fun _ => rfl⟩

/-- `A` and the flags after an accumulator rotate, with Z cleared (R250 to R253). -/
theorem rotAcc_eq (f : RotFn) (s : State) :
    rotAcc f s =
      s.after { s.regs with
        a := (f s.regs.a (flagC s.regs.f)).1
        f := accRotFlags (f s.regs.a (flagC s.regs.f)).2 } s.bus 4 := rfl

/-- Settles O31: the accumulator rotates are the operations' functions of A and Cf, with the flag byte of `accRotFlags`. -/
theorem accumulatorRotatesClearZ : Obligations.AccumulatorRotatesClearZ := by
  intro op i b s h
  obtain ⟨hencode, hexec⟩ := accumulatorRotate_of_mem h
  refine ⟨_, _, rotFn_toNat op s.regs.a (s.regs.f.getLsbD 4), ?_, assembles_of_encode hencode,
    exec_eq_of_runs (hexec s) (rotAcc_eq (rotFn op) s)⟩
  rw [← rotFn_out]
  exact flagsAre_mkFlags _ _ _ _

/-! ## The CB-prefixed rotates and shifts -/

/-- A rotate or shift is `CB 00ooosss` (R149). -/
theorem Operand.encode_rot (o : Operand) (op : RotOp) : encode (o.rot op) = [0xCB, byteOf (8 * op.code + o.code)] := by
  cases o with
  | reg r => cases op <;> cases r <;> rfl
  | mem   => cases op <;> rfl

/-- A rotate or shift overwrites its operand with the operation's function of it and of Cf; the flags follow the value computed
(R254 to R262). -/
theorem Operand.exec_rot (o : Operand) (op : RotOp) (s : State) :
    exec (o.rot op) s =
      .next (s.after { o.regsAfter s (rotFn op (o.value s) (flagC s.regs.f)).1 with
          f := rotFlags (rotFn op (o.value s) (flagC s.regs.f)).1 (rotFn op (o.value s) (flagC s.regs.f)).2 }
        (o.busAfter s (rotFn op (o.value s) (flagC s.regs.f)).1) o.cost) := by
  cases o with
  | reg r => cases op <;> cases r <;> rfl
  | mem   => cases op <;> rfl

/-- Settles O32: byte and Cf are the operation's function of the operand, and Z is the byte's. -/
theorem rotatesAndShifts : Obligations.RotatesAndShifts := by
  intro op o s
  refine ⟨_, _, rotFn_toNat op (o.value s) (s.regs.f.getLsbD 4), ?_, assembles_of_encode (o.encode_rot op), o.exec_rot op s⟩
  rw [← rotFn_out]
  exact flagsAre_mkFlags_isZero _ _ _ _

/-! ## BIT -/

/-- `BIT b,s` is `CB 01bbbsss` (R263). -/
theorem Operand.encode_bit (o : Operand) (b : Fin 8) :
    encode (o.bit b) = [0xCB, byteOf (0x40 + 8 * b.val + o.code)] := by
  cases o with
  | reg r => fin_cases b <;> cases r <;> rfl
  | mem   => fin_cases b <;> rfl

/-- `BIT b,s` writes the flags of the operand's bit and nothing else (R263). -/
theorem Operand.exec_bit (o : Operand) (b : Fin 8) (s : State) :
    exec (o.bit b) s =
      .next (s.after { s.regs with f := bitFlags s.regs.f (o.value s) b.val } s.bus
        (match o with | .reg _ => 8 | .mem => 12)) := by
  cases o with
  | reg r => fin_cases b <;> cases r <;> rfl
  | mem   => fin_cases b <;> rfl

/-- Settles O33: the flag byte is `bitFlags` of the operand. -/
theorem bitTests : Obligations.BitTests := fun b o s =>
  ⟨_, flagsAre_mkFlags _ _ _ _, assembles_of_encode (o.encode_bit b), o.exec_bit b s⟩

/-! ## RES and SET -/

/-- `1 << b` has bit `b` alone. -/
theorem one_shiftLeft_getLsbD (b : Nat) {i : Nat} (hi : i < 8) : (1#8 <<< b).getLsbD i = decide (i = b) := by
  have htwo : (1#8 <<< b).getLsbD i = (decide (b < 8) && decide (b = i)) := BitVec.getLsbD_twoPow b i
  rw [htwo, ← Bool.decide_and, decide_eq_decide]
  omega

/-- RES makes bit `b` 0 and keeps the others (R264). -/
theorem clearBit_getLsbD (v : Byte) (b : Nat) {i : Nat} (hi : i < 8) :
    (clearBit v b).getLsbD i = if i = b then false else v.getLsbD i := by
  rw [clearBit, BitVec.getLsbD_and, BitVec.getLsbD_not, one_shiftLeft_getLsbD b hi]
  split <;> simp [*]

/-- SET makes bit `b` 1 and keeps the others (R265). -/
theorem setBit_getLsbD (v : Byte) (b : Nat) {i : Nat} (hi : i < 8) :
    (setBit v b).getLsbD i = if i = b then true else v.getLsbD i := by
  rw [setBit, BitVec.getLsbD_or, one_shiftLeft_getLsbD b hi]
  split <;> simp [*]

/-- `RES b,s` is `CB 10bbbsss` (R264). -/
theorem Operand.encode_res (o : Operand) (b : Fin 8) :
    encode (o.res b) = [0xCB, byteOf (0x80 + 8 * b.val + o.code)] := by
  cases o with
  | reg r => fin_cases b <;> cases r <;> rfl
  | mem   => fin_cases b <;> rfl

/-- `SET b,s` is `CB 11bbbsss` (R265). -/
theorem Operand.encode_set (o : Operand) (b : Fin 8) :
    encode (o.set b) = [0xCB, byteOf (0xC0 + 8 * b.val + o.code)] := by
  cases o with
  | reg r => fin_cases b <;> cases r <;> rfl
  | mem   => fin_cases b <;> rfl

/-- `RES b,s` overwrites its operand with the bit cleared, whatever the bit was (R264). -/
theorem Operand.exec_res (o : Operand) (b : Fin 8) (s : State) :
    exec (o.res b) s =
      .next (s.after (o.regsAfter s (clearBit (o.value s) b.val)) (o.busAfter s (clearBit (o.value s) b.val)) o.cost) := by
  cases o with
  | reg r => fin_cases b <;> cases r <;> rfl
  | mem   => fin_cases b <;> rfl

/-- `SET b,s` overwrites its operand with the bit set, whatever the bit was (R265). -/
theorem Operand.exec_set (o : Operand) (b : Fin 8) (s : State) :
    exec (o.set b) s =
      .next (s.after (o.regsAfter s (setBit (o.value s) b.val)) (o.busAfter s (setBit (o.value s) b.val)) o.cost) := by
  cases o with
  | reg r => fin_cases b <;> cases r <;> rfl
  | mem   => fin_cases b <;> rfl

/-- Settles O34: RES writes `clearBit` of the operand and SET `setBit`, which change bit `b` alone. -/
theorem bitClearsAndSets : Obligations.BitClearsAndSets := fun b o s =>
  ⟨⟨_, fun _ => clearBit_getLsbD (o.value s) b.val, assembles_of_encode (o.encode_res b), o.exec_res b s⟩,
    ⟨_, fun _ => setBit_getLsbD (o.value s) b.val, assembles_of_encode (o.encode_set b), o.exec_set b s⟩⟩

end Sys2Proof.Machine
end

section
/-! SUPPORT. The control transfers (R280 to R291): the condition on a flag byte, each meaning as one update, and the return that
finds what a call pushed. -/

namespace Sys2Proof.Machine

/-- The model's condition is the one of R147 on the flag byte. -/
theorem State.cond_eq_condHolds (s : State) (cc : Cond) : s.cond cc = condHolds cc s.regs.f := by
  cases cc with
  | nz | nc => exact Bool.decide_eq_false.symm
  | z | c   => exact Bool.decide_eq_true.symm

/-! ## Jumps -/

/-- `JP cc,nn` is `110cc010 lo hi` (R281). -/
theorem encode_jpCC (nn : Word) (cc : Cond) :
    encode (.jpCC nn cc) = [byteOf (0xC2 + 8 * cc.code), loByte nn, hiByte nn] := by
  cases cc <;> rfl

/-- `JR cc,e` is `001cc000 e` (R284). -/
theorem encode_jrCC (e : Byte) (cc : Cond) : encode (.jrCC e cc) = [byteOf (0x20 + 8 * cc.code), e] := by
  cases cc <;> rfl

/-- `JP cc,nn` (R281). -/
theorem exec_jpCC (nn : Word) (cc : Cond) (s : State) : exec (.jpCC nn cc) s = .next (jpIf cc nn s) := by
  cases cc <;> rfl

/-- `JR cc,e` (R284). -/
theorem exec_jrCC (e : Byte) (cc : Cond) (s : State) : exec (.jrCC e cc) s = .next (jrIf cc e s) := by
  cases cc <;> rfl

/-- `PC <- imm16` (R280). -/
theorem jpAlways_eq (nn : Word) (s : State) : jpAlways nn s = s.after { s.regs with pc := nn } s.bus 16 := rfl

/-- `if cond(cc): PC <- imm16` (R281). -/
theorem jpIf_eq (cc : Cond) (nn : Word) (s : State) :
    jpIf cc nn s =
      if condHolds cc s.regs.f = true then s.after { s.regs with pc := nn } s.bus 16 else s.after s.regs s.bus 12 := by
  rw [← State.cond_eq_condHolds]
  rfl

/-- `PC <- HL` (R282). -/
theorem jpHl_eq (s : State) : jpHl s = s.after { s.regs with pc := joinBytes s.regs.h s.regs.l } s.bus 4 := rfl

/-- `PC <- (PC + sext_16(imm8)) mod 2^16` (R283). -/
theorem jrAlways_eq (e : Byte) (s : State) :
    jrAlways e s = s.after { s.regs with pc := s.regs.pc + signExtend16 e } s.bus 12 := rfl

/-- `if cond(cc): PC <- (PC + sext_16(imm8)) mod 2^16` (R284). -/
theorem jrIf_eq (cc : Cond) (e : Byte) (s : State) :
    jrIf cc e s =
      if condHolds cc s.regs.f = true then s.after { s.regs with pc := s.regs.pc + signExtend16 e } s.bus 12
      else s.after s.regs s.bus 8 := by
  rw [← State.cond_eq_condHolds]
  rfl

/-- Settles O35: each form writes PC alone; JR's target is PC plus the sign-extended displacement, the signed sum modulo 2^16. -/
theorem jumps : Obligations.Jumps :=
  ⟨fun nn s => ⟨assembles_imm16 rfl, exec_eq_of_runs rfl (jpAlways_eq nn s)⟩,
    fun cc nn s => ⟨assembles_imm16 (encode_jpCC nn cc), exec_eq_of_runs (exec_jpCC nn cc s) (jpIf_eq cc nn s)⟩,
    fun s => ⟨assembles_of_encode rfl, exec_eq_of_runs rfl (jpHl_eq s)⟩,
    fun e s => ⟨s.regs.pc + signExtend16 e, add_signExtend16_toNat s.regs.pc e, assembles_of_encode rfl,
      exec_eq_of_runs rfl (jrAlways_eq e s), fun cc =>
        ⟨assembles_of_encode (encode_jrCC e cc), exec_eq_of_runs (exec_jrCC e cc s) (jrIf_eq cc e s)⟩⟩⟩

/-! ## A return after a call -/

/-- `push16(PC); PC <- imm16` (R285). -/
theorem callAlways_eq (nn : Word) (s : State) :
    callAlways nn s = s.after { s.regs with sp := s.regs.sp - 2, pc := nn } (s.push16 s.regs.pc).bus 24 := rfl

/-- `PC <- pop16()` (R287). -/
theorem retAlways_eq (s : State) :
    retAlways s = s.after { s.regs with sp := s.regs.sp + 2, pc := s.top16 } s.bus 16 := rfl

/-- Settles O38: the return finds the PC that the call pushed on top, and moves SP back up. -/
theorem returnUndoesCall : Obligations.ReturnUndoesCall := by
  intro nn s hb hlo hhi
  refine ⟨callAlways nn s, retAlways (callAlways nn s), rfl, rfl, ?_, rfl⟩
  have htop : (callAlways nn s).top16 = s.regs.pc := State.top16_push16 hb hlo hhi s.regs.pc
  calc (retAlways (callAlways nn s)).regs
      = { s.regs with sp := s.regs.sp - 2 + 2, pc := (callAlways nn s).top16 } := by rw [retAlways_eq]; rfl
    _ = s.regs := by rw [sub_two_add_two, htop]

/-! ## Calls -/

/-- `CALL cc,nn` is `110cc100 lo hi` (R286). -/
theorem encode_callCC (nn : Word) (cc : Cond) :
    encode (.callCC nn cc) = [byteOf (0xC4 + 8 * cc.code), loByte nn, hiByte nn] := by
  cases cc <;> rfl

/-- `RST t` is `11ttt111` (R290). -/
theorem encode_rst (t : Fin 8) : encode (.rst t) = [byteOf (0xC7 + 8 * t.val)] := by
  fin_cases t <;> rfl

/-- `CALL cc,nn` (R286). -/
theorem exec_callCC (nn : Word) (cc : Cond) (s : State) : exec (.callCC nn cc) s = .next (callIf cc nn s) := by
  cases cc <;> rfl

/-- `RST t` (R290). -/
theorem exec_rst (t : Fin 8) (s : State) : exec (.rst t) s = .next (rstTo t.val s) := by
  fin_cases t <;> rfl

/-- The memory a call leaves: the halves of PC, low byte at the new SP (R204, R285). -/
theorem State.push16_pc_bus (s : State) :
    (s.push16 s.regs.pc).bus =
      (s.bus.write (s.regs.sp - 2) (byteOf (s.regs.pc.toNat % 256))).write (s.regs.sp - 1)
        (byteOf (s.regs.pc.toNat / 256)) := by
  rw [State.push16_eq, loByte_eq, hiByte_eq]

/-- `if cond(cc): push16(PC); PC <- imm16` (R286). -/
theorem callIf_eq (cc : Cond) (nn : Word) (s : State) :
    callIf cc nn s =
      if condHolds cc s.regs.f = true then
        s.after { s.regs with sp := s.regs.sp - 2, pc := nn } (s.push16 s.regs.pc).bus 24
      else s.after s.regs s.bus 12 := by
  rw [← State.cond_eq_condHolds]
  rfl

/-- `push16(PC); PC <- zext_16(t) * 8` (R290). -/
theorem rstTo_eq (t : Nat) (s : State) :
    rstTo t s =
      s.after { s.regs with sp := s.regs.sp - 2, pc := BitVec.ofNat 16 (8 * t) } (s.push16 s.regs.pc).bus 16 := by
  rw [Nat.mul_comm, BitVec.ofNat_mul]
  rfl

/-- Settles O36: every call pushes PC and goes to its target, and a false condition skips both. -/
theorem calls : Obligations.Calls := fun s =>
  ⟨s.regs.sp - 2, (s.push16 s.regs.pc).bus, rfl, s.push16_pc_bus,
    fun nn => ⟨assembles_imm16 rfl, exec_eq_of_runs rfl (callAlways_eq nn s)⟩,
    fun cc nn => ⟨assembles_imm16 (encode_callCC nn cc), exec_eq_of_runs (exec_callCC nn cc s) (callIf_eq cc nn s)⟩,
    fun t => ⟨assembles_of_encode (encode_rst t), exec_eq_of_runs (exec_rst t s) (rstTo_eq t.val s)⟩⟩

/-! ## Returns -/

/-- `RET cc` is `110cc000` (R288). -/
theorem encode_retCC (cc : Cond) : encode (.retCC cc) = [byteOf (0xC0 + 8 * cc.code)] := by
  cases cc <;> rfl

/-- `RET cc` (R288). -/
theorem exec_retCC (cc : Cond) (s : State) : exec (.retCC cc) s = .next (retIf cc s) := by
  cases cc <;> rfl

/-- `if cond(cc): PC <- pop16()` (R288). -/
theorem retIf_eq (cc : Cond) (s : State) :
    retIf cc s =
      if condHolds cc s.regs.f = true then s.after { s.regs with sp := s.regs.sp + 2, pc := s.top16 } s.bus 20
      else s.after s.regs s.bus 8 := by
  rw [← State.cond_eq_condHolds]
  rfl

/-- `PC <- pop16(); IME <- 1; ei_pending <- 0` (R289). -/
theorem retiAlways_eq (s : State) :
    retiAlways s =
      { s.after { s.regs with sp := s.regs.sp + 2, pc := s.top16 } s.bus 16 with ime := true, eiPending := false } := rfl

/-- Settles O37: every return pops PC alone, RETI also sets IME, and a false condition skips the pop. -/
theorem returns : Obligations.Returns := fun s =>
  ⟨{ s.regs with sp := s.regs.sp + 2, pc := s.top16 }, rfl, assembles_of_encode rfl, exec_eq_of_runs rfl (retAlways_eq s),
    assembles_of_encode rfl, exec_eq_of_runs rfl (retiAlways_eq s), fun cc =>
      ⟨assembles_of_encode (encode_retCC cc), exec_eq_of_runs (exec_retCC cc s) (retIf_eq cc s)⟩⟩

end Sys2Proof.Machine
end

section
/-! SUPPORT. The system instructions and the illegal opcodes (R300 to R306, R320): each meaning as one update, and the step after an
EI, which sets IME before it runs its instruction (R32, R333). -/

namespace Sys2Proof.Machine

/-! ## The meanings, each as one update -/

/-- `NOP` spends its time only (R300). -/
theorem nopState_eq (s : State) : nopState s = s.after s.regs s.bus 4 := rfl

/-- `halted <- 1` (R301, R302). -/
theorem haltState_eq (s : State) : haltState s = { s.after s.regs s.bus 4 with halted := true } := rfl

/-- `IME <- 0; ei_pending <- 0` (R303). -/
theorem diState_eq (s : State) : diState s = { s.after s.regs s.bus 4 with ime := false, eiPending := false } := rfl

/-- `ei_pending <- 1` (R304). -/
theorem eiState_eq (s : State) : eiState s = { s.after s.regs s.bus 4 with eiPending := true } := rfl

/-- Settles O39: HALT and every STOP run the one standby meaning, whatever STOP's second byte. -/
theorem systemInstructions : Obligations.SystemInstructions := fun s =>
  ⟨⟨assembles_of_encode rfl, exec_eq_of_runs rfl (nopState_eq s)⟩,
    ⟨assembles_of_encode rfl, exec_eq_of_runs rfl (haltState_eq s)⟩,
    fun _ => ⟨assembles_of_encode rfl, exec_eq_of_runs rfl (haltState_eq s)⟩,
    ⟨assembles_of_encode rfl, exec_eq_of_runs rfl (diState_eq s)⟩,
    ⟨assembles_of_encode rfl, exec_eq_of_runs rfl (eiState_eq s)⟩⟩

/-! ## The illegal opcodes -/

/-- An illegal constructor is assembled from an undefined opcode alone (R150). -/
theorem assembles_of_mem_illegals {i : Instr} (h : i ∈ Instr.illegals) :
    ∃ b : Byte, b.toNat ∈ illegalOpcodes ∧ Assembles i [b] := by
  obtain ⟨n, hn, he⟩ := encode_of_mem_illegals h
  have hasm := assembles_of_encode he
  exact ⟨byteOf n, (undefinedOpcode_of_decode_illegal hasm.2 h).1, hasm⟩

/-- All eleven illegal constructors raise the one fault (R306). -/
theorem exec_of_mem_illegals {i : Instr} (h : i ∈ Instr.illegals) (s : State) :
    exec i s = .next s.raiseIllegalOpcode := by
  have hmap : Instr.illegals.map (exec · s) = List.replicate Instr.illegals.length (.next s.raiseIllegalOpcode) := rfl
  exact List.map_eq_replicate_iff.mp hmap i h

/-- Settles O12: an undefined opcode spells each illegal constructor, and all of them raise the one fault. -/
theorem illegalOpcodesAreFatal : Obligations.IllegalOpcodesAreFatal := fun _ s h =>
  ⟨assembles_of_mem_illegals h, exec_eq_of_runs (exec_of_mem_illegals h s) s.raiseIllegalOpcode_eq⟩

/-! ## The step after an EI -/

/-- A state that is not in standby has nothing to wake up from (R333). -/
theorem State.wake_of_awake {s : State} (h : s.halted = false) : s.wake = s := by
  rw [State.wake_eq, h, Bool.false_and, ← h]

/-- With IME clear and outside standby, the step runs an instruction, after the delayed effect of EI (R26, R32, R333). -/
theorem State.cpuStep_of_awake {s : State} (hime : s.ime = false) (h : s.halted = false) :
    s.cpuStep = s.applyEi.runInstr := by
  rw [State.cpuStep, State.dispatched_wake_none (.inl hime), State.wake_of_awake h, h]
  exact if_neg Bool.noConfusion

/-- Where an EI is pending, its delayed effect is to set IME (R32). -/
theorem State.applyEi_of_pending {s : State} (h : s.eiPending = true) :
    s.applyEi = { s with ime := true, eiPending := false } := if_pos h

/-- Settles O10: EI leaves IME clear, so the next step cannot dispatch; it applies the pending EI and runs its instruction. -/
theorem eiTakesEffectOneInstructionLate : Obligations.EiTakesEffectOneInstructionLate := by
  intro s hime hawake
  refine ⟨eiState s, rfl, hime, State.dispatched_wake_none (.inl hime), ?_⟩
  calc (eiState s).cpuStep
      = (eiState s).applyEi.runInstr := State.cpuStep_of_awake hime hawake
    _ = State.runInstr { eiState s with ime := true, eiPending := false } := by rw [State.applyEi_of_pending rfl]

end Sys2Proof.Machine
end

section
/-! SUPPORT. Which interrupt is dispatched (R325 to R328): what is pending, the priority order, and the first pending source. -/

namespace Sys2Proof.Machine

/-- A source is pending when its bit is set in IE and in IF (R327). -/
theorem State.pending_getLsbD (s : State) (k : Nat) :
    s.pending.getLsbD k = (s.bus.ie.getLsbD k && s.bus.ifl.getLsbD k) := by
  rw [State.pending, BitVec.getLsbD_and, BitVec.getLsbD_setWidth]
  by_cases h : k < 5
  · rw [decide_eq_true h, Bool.true_and]
  · rw [BitVec.getLsbD_of_ge s.bus.ifl k (Nat.not_lt.1 h), Bool.and_false, Bool.and_false]

/-- The priority order is the order of the bits (R325, R328). -/
theorem interruptOrder_getElem_bit (i : Interrupt) : interruptOrder[i.bit]? = some i := by cases i <;> rfl

/-- The source at a position of the priority order has that position as its bit (R325, R328). -/
theorem bit_interruptOrder_getElem : ∀ (k : Nat) (h : k < interruptOrder.length), interruptOrder[k].bit = k := by decide

/-- The next interrupt is the pending source below whose bit nothing is pending (R328, R333). -/
theorem State.nextInterrupt_eq_some_iff {s : State} {i : Interrupt} :
    s.nextInterrupt = some i ↔ s.pending.getLsbD i.bit = true ∧ ∀ j, j < i.bit → s.pending.getLsbD j = false := by
  rw [State.nextInterrupt, List.find?_eq_some_iff_getElem]
  refine and_congr_right fun _ => ⟨?_, fun hlow => ?_⟩
  · rintro ⟨k, hk, rfl, hlow⟩ j hj
    rw [bit_interruptOrder_getElem] at hj
    simpa only [bit_interruptOrder_getElem, Bool.not_eq_true'] using hlow j hj
  · obtain ⟨hi, hget⟩ := List.getElem?_eq_some_iff.1 (interruptOrder_getElem_bit i)
    refine ⟨i.bit, hi, hget, fun j hj => ?_⟩
    rw [bit_interruptOrder_getElem, hlow j hj]
    rfl

/-- The wake-up changes neither IME nor what is pending, so it does not change what is dispatched (R333). -/
theorem State.dispatched_wake_eq_some_iff {s : State} {i : Interrupt} :
    s.wake.dispatched = some i ↔ s.ime = true ∧ s.nextInterrupt = some i := by
  rw [State.dispatched, State.wake_ime, State.nextInterrupt_eq_of_bus s.wake_bus, Option.ite_none_right_eq_some]

/-- Settles O8: the dispatched source is the next interrupt, which is the lowest pending one. -/
theorem lowestEnabledRequestIsDispatched : Obligations.LowestEnabledRequestIsDispatched := by
  intro s i
  rw [State.dispatched_wake_eq_some_iff, State.nextInterrupt_eq_some_iff]
  simp only [State.pending_getLsbD, Bool.and_eq_true, and_assoc]

end Sys2Proof.Machine
end

section
/-! SUPPORT. The cost of an instruction (R394, R440): what its meaning spends is what the tables say. -/

namespace Sys2Proof.Machine

/-- A condition code looks at one flag (R147). -/
theorem condHolds_eq_cond (cc : Cond) (s : State) : condHolds cc s.regs.f = s.cond cc := by
  cases cc <;> simp [condHolds, State.cond, flagZ, flagC]

/-- Whether an instruction is a conditional transfer whose condition holds (R147, R394). -/
def isTaken (i : Instr) (f : Byte) : Bool :=
  match i.condition with
  | some cc => condHolds cc f
  | none    => false

/-- A condition that holds is `State.cond`'s (R147). -/
theorem isTaken_of_some {i : Instr} {cc : Cond} (h : i.condition = some cc) (s : State) :
    isTaken i s.regs.f = s.cond cc := by
  rw [isTaken, h]
  exact condHolds_eq_cond cc s

/-- An unconditional instruction has nothing to take. -/
theorem isTaken_of_none {i : Instr} (h : i.condition = none) (f : Byte) : isTaken i f = false := by
  rw [isTaken, h]

/-- What a meaning spends is the documented cost of the instruction it describes (R148, R149, R394). -/
theorem Profile.Describes.spent_eq {p : Profile} {i : Instr} (h : p.Describes i) (s : State) :
    p.spent s = documentedCost ((encode i).getD 0 0) ((encode i).getD 1 0) (isTaken i s.regs.f) := by
  rw [Profile.spent, ← h.condition, ← h.costNot, ← h.costTaken]
  cases hc : i.condition with
  | none => rw [isTaken_of_none hc]
  | some cc =>
    rw [isTaken_of_some hc]
    show (if s.cond cc = true then _ else _) = _
    cases s.cond cc <;> rfl

/-- Settles O40: an instruction is one of the shared meanings, which spends the documented cost. -/
theorem costsAreTheDocumentedOnes : Obligations.CostsAreTheDocumentedOnes := by
  intro i s
  obtain ⟨p, hp, hi⟩ := exec_meaning i
  have hs := hp.spends s
  exact ⟨p.run s, hi.exec_eq s, p.spent s, hi.spent_eq s, hs.consumed, hs.cpuCycles, hi.spent_bounds s⟩

end Sys2Proof.Machine
end

section
/-! SUPPORT. The timer in closed form (R350, R351): the loop is an iteration of one T-cycle, and an increment of TIMA commutes
with the running of `sysclk`. -/

namespace Sys2Proof.Machine

/-- The counter behind DIV, moved on by `c` T-cycles. -/
def Bus.addSysclk (c : Nat) (b : Bus) : Bus :=
  { b with timer := { b.timer with sysclk := b.timer.sysclk + BitVec.ofNat 16 c } }

/-- T-cycles add up. -/
theorem Bus.addSysclk_one_addSysclk (c : Nat) (b : Bus) : (b.addSysclk c).addSysclk 1 = b.addSysclk (c + 1) := by
  simp only [Bus.addSysclk, BitVec.ofNat_add, BitVec.add_assoc]

/-- An increment of 0xFF reloads TMA and requests TIMER (R351). -/
theorem Bus.timaInc_of_full {b : Bus} (h : b.timer.tima = 0xFF) :
    b.timaInc = { b with timer := { b.timer with tima := b.timer.tma }, ifl := b.ifl ||| 0b00100#5 } := if_pos h

/-- Any other increment adds 1 (R351). -/
theorem Bus.timaInc_of_not_full {b : Bus} (h : b.timer.tima ≠ 0xFF) :
    b.timaInc = { b with timer := { b.timer with tima := b.timer.tima + 1 } } := if_neg h

/-- An increment of TIMA neither looks at `sysclk` nor changes it (R351). -/
theorem Bus.timaInc_addSysclk (c : Nat) : Function.Commute Bus.timaInc (Bus.addSysclk c) := by
  intro b
  by_cases h : b.timer.tima = 0xFF
  · rw [Bus.timaInc_of_full h, Bus.timaInc_of_full (b := b.addSysclk c) h]
    rfl
  · rw [Bus.timaInc_of_not_full h, Bus.timaInc_of_not_full (b := b.addSysclk c) h]
    rfl

/-- Increments of TIMA leave TAC and `sysclk` alone (R351). -/
theorem Bus.timaInc_iterate_frame (k : Nat) (b : Bus) :
    (Bus.timaInc^[k] b).timer.tac = b.timer.tac ∧ (Bus.timaInc^[k] b).timer.sysclk = b.timer.sysclk := by
  induction k with
  | zero => exact ⟨rfl, rfl⟩
  | succ k ih =>
    rw [Function.iterate_succ_apply']
    generalize Bus.timaInc^[k] b = t at ih ⊢
    rw [Bus.timaInc]
    split_ifs <;> exact ih

/-- The loop of `timer_step` is an iteration (R350). -/
theorem Bus.timerStep_eq_iterate (c : Nat) (b : Bus) : b.timerStep c = Bus.timerTick^[c] b := by
  induction c generalizing b with
  | zero => rfl
  | succ c ih => exact ih b.timerTick

/-- The last T-cycle of the loop. -/
theorem Bus.timerStep_succ (c : Nat) (b : Bus) : b.timerStep (c + 1) = (b.timerStep c).timerTick := by
  rw [Bus.timerStep_eq_iterate, Bus.timerStep_eq_iterate, Function.iterate_succ_apply']

/-- Every period divides the range of `sysclk`, so no increment is lost where it wraps (R350). -/
theorem timerPeriod_dvd : ∀ select : BitVec 2, timerPeriod select ∣ 2 ^ 16 := by decide

/-- The selected period of the timer (R350). -/
def Timer.period (t : Timer) : Nat := timerPeriod (t.tac.setWidth 2)

/-- TAC alone selects the period. -/
theorem Timer.period_eq_of_tac {t u : Timer} (h : t.tac = u.tac) : t.period = u.period := by
  rw [Timer.period, Timer.period, h]

/-- The T-cycle that takes `sysclk` to `n`, as an integer that does not wrap: with TAC[2] = 1 an increment where the period
divides `n`, and none otherwise (R350). -/
theorem Bus.timerTick_eq {b : Bus} {n : Nat} (h : b.timer.sysclk + 1 = BitVec.ofNat 16 n) :
    b.timerTick =
      if b.timer.tac.getLsbD 2 = true ∧ b.timer.period ∣ n then (b.addSysclk 1).timaInc else b.addSysclk 1 := by
  have hdvd : (b.timer.sysclk + 1).toNat % b.timer.period = 0 ↔ b.timer.period ∣ n := by
    rw [h, BitVec.toNat_ofNat, Timer.period, Nat.mod_mod_of_dvd _ (timerPeriod_dvd _), Nat.dvd_iff_mod_eq_zero]
  exact if_congr (and_congr_right' hdvd) rfl rfl

/-- With TAC[2] = 0 only `sysclk` moves (R350). -/
theorem Bus.timerStep_of_disabled {b : Bus} (h : b.timer.tac.getLsbD 2 = false) (c : Nat) :
    b.timerStep c = b.addSysclk c := by
  induction c with
  | zero => simp [Bus.timerStep, Bus.addSysclk]
  | succ c ih =>
    rw [Bus.timerStep_succ, ih, ← Bus.addSysclk_one_addSysclk]
    exact if_neg fun hen => Bool.false_ne_true (h.symm.trans hen.1)

/-- With TAC[2] = 1 a T-cycle after `k` increments makes one more where `sysclk` reaches a multiple of the period (R350). -/
theorem Bus.timerTick_iterate {b : Bus} (h : b.timer.tac.getLsbD 2 = true) (k c : Nat) :
    (Bus.timaInc^[k] (b.addSysclk c)).timerTick =
      Bus.timaInc^[k + if b.timer.period ∣ b.timer.sysclk.toNat + c + 1 then 1 else 0] (b.addSysclk (c + 1)) := by
  obtain ⟨htac, hsys⟩ := Bus.timaInc_iterate_frame k (b.addSysclk c)
  have hclock : (Bus.timaInc^[k] (b.addSysclk c)).addSysclk 1 = Bus.timaInc^[k] (b.addSysclk (c + 1)) := by
    rw [← Bus.addSysclk_one_addSysclk c]
    exact ((Bus.timaInc_addSysclk 1).iterate_left k (b.addSysclk c)).symm
  generalize Bus.timaInc^[k] (b.addSysclk c) = t at htac hsys hclock ⊢
  have hreach : t.timer.sysclk + 1 = BitVec.ofNat 16 (b.timer.sysclk.toNat + c + 1) := by
    rw [hsys, BitVec.ofNat_add, BitVec.ofNat_add, BitVec.ofNat_toNat, BitVec.setWidth_eq]
    rfl
  have hen : t.timer.tac.getLsbD 2 = true := (congrArg (·.getLsbD 2) htac).trans h
  have hperiod : t.timer.period = b.timer.period := Timer.period_eq_of_tac htac
  rw [Bus.timerTick_eq hreach, hclock, hperiod]
  by_cases hdvd : b.timer.period ∣ b.timer.sysclk.toNat + c + 1
  · rw [if_pos ⟨hen, hdvd⟩, if_pos hdvd, Function.iterate_succ_apply']
  · rw [if_neg fun hboth => hdvd hboth.2, if_neg hdvd]
    rfl

/-- One number further, one multiple more or none. -/
theorem div_sub_div_succ (s c p : Nat) :
    (s + (c + 1)) / p - s / p = (s + c) / p - s / p + if p ∣ s + c + 1 then 1 else 0 := by
  have hmono : s / p ≤ (s + c) / p := Nat.div_le_div_right (Nat.le_add_right s c)
  rw [← Nat.add_assoc, Nat.succ_div, Nat.sub_add_comm hmono]

/-- With TAC[2] = 1 TIMA is also incremented once for every multiple of the period that `sysclk` reaches (R350). -/
theorem Bus.timerStep_of_enabled {b : Bus} (h : b.timer.tac.getLsbD 2 = true) (c : Nat) :
    b.timerStep c =
      Bus.timaInc^[(b.timer.sysclk.toNat + c) / b.timer.period - b.timer.sysclk.toNat / b.timer.period] (b.addSysclk c) := by
  induction c with
  | zero => simp [Bus.timerStep, Bus.addSysclk]
  | succ c ih => rw [Bus.timerStep_succ, ih, Bus.timerTick_iterate h, div_sub_div_succ]

/-- The period by TAC's two select bits, as integers (R350). -/
theorem Timer.period_eq (t : Timer) :
    t.period = (match t.tac.toNat % 4 with | 0 => 1024 | 1 => 16 | 2 => 64 | _ => 256) := rfl

/-- Settles O51: the loop is the increments at the multiples of the period, and an increment is one of two. -/
theorem timerStepInClosedForm : Obligations.TimerStepInClosedForm := by
  refine ⟨fun c b => ⟨b.timer.period, _, b.addSysclk c, b.timer.period_eq, rfl, rfl, ?_⟩,
    fun b => ⟨fun h => ?_, fun h => ?_⟩⟩
  · cases hen : b.timer.tac.getLsbD 2 with
    | true => exact Bus.timerStep_of_enabled hen c
    | false => exact Bus.timerStep_of_disabled hen c
  · exact Bus.timaInc_of_full (BitVec.eq_of_toNat_eq h)
  · rw [BitVec.ofNat_add, BitVec.ofNat_toNat, BitVec.setWidth_eq]
    exact Bus.timaInc_of_not_full fun hfull => h (congrArg BitVec.toNat hfull)

end Sys2Proof.Machine
end

section
/-! SUPPORT. The serial port and the joypad (R360, R364, R365). -/

namespace Sys2Proof.Machine

/-! ## The serial port -/

/-- With no transfer, or on the external clock, the port is idle (R360). -/
theorem Bus.serialStep_of_idle {b : Bus} (h : b.serial.transfer = false ∨ b.serial.internal = false) (c : Nat) :
    b.serialStep c = b := by
  refine if_neg fun ⟨ht, hi⟩ => ?_
  rcases h with h | h
  · exact Bool.false_ne_true (h.symm.trans ht)
  · exact Bool.false_ne_true (h.symm.trans hi)

/-- A running transfer, counted down or completed (R360). -/
theorem Bus.serialStep_of_running {b : Bus} (ht : b.serial.transfer = true) (hi : b.serial.internal = true) (c : Nat) :
    b.serialStep c =
      if c < b.serial.count then { b with serial := { b.serial with count := b.serial.count - c } }
      else { b with serial := ⟨0xFF, false, true, 0⟩, ifl := b.ifl ||| 0b01000#5 } := by
  refine (if_pos ⟨ht, hi⟩).trans (if_congr Iff.rfl rfl ?_)
  simp only [hi]
  rfl

/-- Settles O52: a running transfer is counted down or completed, and SC's address is its handler's. -/
theorem serialTransferCompletes : Obligations.SerialTransferCompletes := by
  refine fun c b => ⟨fun h => Bus.serialStep_of_idle h c, fun ht hi hlt => ?_, fun ht hi hle => ?_, fun v => ?_⟩
  · rw [Bus.serialStep_of_running ht hi, if_pos hlt]
  · rw [Bus.serialStep_of_running ht hi, if_neg (Nat.not_lt.2 hle)]
  · exact Bus.write_io (o := 0x02) (by decide)

/-! ## The joypad -/

/-- The buttons of a group as a nibble, bit 3 first (R364). -/
theorem nibble_getLsbD (x3 x2 x1 x0 : Bool) :
    let v := BitVec.ofBool x3 ++ BitVec.ofBool x2 ++ BitVec.ofBool x1 ++ BitVec.ofBool x0
    v.getLsbD 0 = x0 ∧ v.getLsbD 1 = x1 ∧ v.getLsbD 2 = x2 ∧ v.getLsbD 3 = x3 := by
  revert x3 x2 x1 x0
  decide

/-- The direction buttons, on the lines they pull low (R364). -/
def directionLines (i : Buttons) : BitVec 4 :=
  BitVec.ofBool i.down ++ BitVec.ofBool i.up ++ BitVec.ofBool i.left ++ BitVec.ofBool i.right

/-- The action buttons, on the lines they pull low (R364). -/
def actionLines (i : Buttons) : BitVec 4 :=
  BitVec.ofBool i.start ++ BitVec.ofBool i.select ++ BitVec.ofBool i.b ++ BitVec.ofBool i.a

/-- The line of each direction button (R364). -/
theorem directionLines_getLsbD (i : Buttons) :
    (directionLines i).getLsbD 0 = i.right ∧ (directionLines i).getLsbD 1 = i.left ∧
    (directionLines i).getLsbD 2 = i.up ∧ (directionLines i).getLsbD 3 = i.down :=
  nibble_getLsbD i.down i.up i.left i.right

/-- The line of each action button (R364). -/
theorem actionLines_getLsbD (i : Buttons) :
    (actionLines i).getLsbD 0 = i.a ∧ (actionLines i).getLsbD 1 = i.b ∧
    (actionLines i).getLsbD 2 = i.select ∧ (actionLines i).getLsbD 3 = i.start :=
  nibble_getLsbD i.start i.select i.b i.a

/-- A group that is not selected pulls no line low (R364). -/
theorem getLsbD_unselected (sel : Bool) (v : BitVec 4) (k : Nat) :
    (if sel then 0#4 else v).getLsbD k = (!sel && v.getLsbD k) := by
  cases sel
  · rfl
  · exact BitVec.getLsbD_zero

/-- The lines in terms of the two groups (R364). -/
theorem Bus.joyLow_eq (b : Bus) :
    b.joyLow = ~~~((if b.selDir then 0#4 else directionLines b.input) |||
      (if b.selAction then 0#4 else actionLines b.input)) := rfl

/-- A line is the nor of its two buttons, each only where its group is selected (R364). -/
theorem Bus.joyLow_getLsbD (b : Bus) (k : Nat) (h : k < 4) :
    b.joyLow.getLsbD k =
      !((!b.selDir && (directionLines b.input).getLsbD k) || (!b.selAction && (actionLines b.input).getLsbD k)) := by
  rw [Bus.joyLow_eq, BitVec.getLsbD_not, decide_eq_true h, Bool.true_and, BitVec.getLsbD_or, getLsbD_unselected,
    getLsbD_unselected]

/-- Some line is 1 in `v` and 0 in `w` exactly when the mask of those lines is not empty (R365). -/
theorem and_not_ne_zero_iff {n : Nat} {v w : BitVec n} :
    v &&& ~~~w ≠ 0 ↔ ∃ i, i < n ∧ v.getLsbD i = true ∧ w.getLsbD i = false := by
  rw [Ne, BitVec.eq_of_getLsbD_eq_iff, not_forall]
  refine exists_congr fun i => ?_
  rw [Classical.not_imp]
  refine and_congr_right fun hi => ?_
  rw [BitVec.getLsbD_and, BitVec.getLsbD_not, decide_eq_true hi]
  simp

/-- Settles O53: each line is the nor of its button in the two groups, and the request looks for a line that fell. -/
theorem joypadLinesAndEdges : Obligations.JoypadLinesAndEdges := by
  intro b
  obtain ⟨hd0, hd1, hd2, hd3⟩ := directionLines_getLsbD b.input
  obtain ⟨ha0, ha1, ha2, ha3⟩ := actionLines_getLsbD b.input
  refine ⟨?_, ?_, ?_, ?_, ?_⟩
  · rw [Bus.joyLow_getLsbD b 0 (by decide), hd0, ha0]
  · rw [Bus.joyLow_getLsbD b 1 (by decide), hd1, ha1]
  · rw [Bus.joyLow_getLsbD b 2 (by decide), hd2, ha2]
  · rw [Bus.joyLow_getLsbD b 3 (by decide), hd3, ha3]
  · rw [Bus.joypadStep, request]
    simp only [decide_eq_true_eq, and_not_ne_zero_iff]
    rfl

end Sys2Proof.Machine
end

section
/-! SUPPORT. The scheduler (R390 to R392): the end of a quantum, and the steps of a quantum against `sleep_cycle`. -/

namespace Sys2Proof.Machine

/-- The loop of `exec_cycles` goes on while the CPU is alive and the budget is not used up (R392). -/
def State.running (s : State) : Bool := s.cpuAlive && s.inQuantum

/-- The loop's condition as a comparison of integers (R392). -/
theorem State.running_iff {s : State} : s.running = true ↔ s.cpuAlive = true ∧ s.consumed + s.carry < s.quantum := by
  rw [State.running, Bool.and_eq_true, State.inQuantum_iff]

/-- Nothing follows a step inside the quantum (R392). -/
theorem State.settle_of_running {s : State} (h : s.running = true) : s.settle = s := if_pos h

/-- The step that ends the loop is followed by the devices' share (R391). -/
theorem State.settle_of_not_running {s : State} (h : s.running = false) : s.settle = s.endQuantum :=
  if_neg (Bool.eq_false_iff.1 h)

/-- Settles O6: the loop's condition decides whether the devices' share follows, and that share is `endQuantum`. -/
theorem endOfQuantumStepsTheDevices : Obligations.EndOfQuantumStepsTheDevices := by
  intro s
  refine ⟨fun ha hlt => State.settle_of_running (State.running_iff.2 ⟨ha, hlt⟩), fun h => ?_⟩
  refine State.settle_of_not_running (Bool.eq_false_iff.2 fun hrun => ?_)
  obtain ⟨ha, hlt⟩ := State.running_iff.1 hrun
  rcases h with hdead | hover
  · exact Bool.false_ne_true (hdead.symm.trans ha)
  · exact Nat.not_le.2 hlt hover

/-- A step of a running machine is a step of the CPU and what follows it (R391, R392). -/
theorem step_of_running {s t : State} (h : s.running = true) (ht : s.cpuStep = .next t) : step s = .next t.settle := by
  obtain ⟨ha, hq⟩ := (Bool.and_eq_true _ _).mp h
  rcases s.machineStep_cases with ⟨h, -⟩ | ⟨-, -, h⟩ | ⟨-, h, -⟩
  · exact nomatch ha.symm.trans h
  · rw [step, h, ht]
  · exact nomatch hq.symm.trans h

/-- A live machine whose budget is used up ends its quantum (R391, R392). -/
theorem step_of_over {s : State} (ha : s.cpuAlive = true) (h : s.running = false) : step s = .next s.endQuantum := by
  rw [State.running, ha, Bool.true_and] at h
  rcases s.machineStep_cases with ⟨hd, -⟩ | ⟨-, hq, -⟩ | ⟨-, -, e⟩
  · exact nomatch ha.symm.trans hd
  · exact nomatch h.symm.trans hq
  · exact e

/-- Settles O13: each of the three outcomes of a step is a next state, because a step of the CPU and a meaning have one. -/
theorem everyStepAnswersANextState : Obligations.EveryStepAnswersANextState := by
  refine ⟨fun s => ?_, fun i s => ?_⟩
  · rcases s.machineStep_cases with ⟨-, h⟩ | ⟨-, -, h⟩ | ⟨-, -, h⟩
    · exact ⟨_, h⟩
    · obtain ⟨t, -, ht, -⟩ := s.cpuStep_next
      rw [ht] at h
      exact ⟨_, h⟩
    · exact ⟨_, h⟩
  · obtain ⟨p, -, hi⟩ := exec_meaning i
    exact ⟨_, hi.exec_eq s⟩

/-- Where the loop is over, `exec_cycles` does nothing (R392). -/
theorem State.execCycles_of_not_running {s : State} (h : s.running = false) : ∀ fuel, State.execCycles fuel s = .next s
  | 0 => rfl
  | _ + 1 => if_neg (Bool.eq_false_iff.1 h)

/-- Where the loop goes on, `exec_cycles` is a step of the CPU and the rest of the loop (R392). -/
theorem State.execCycles_of_running {s t : State} (h : s.running = true) (ht : s.cpuStep = .next t) (fuel : Nat) :
    State.execCycles (fuel + 1) s = State.execCycles fuel t := by
  refine (if_pos h).trans ?_
  rw [ht]

/-- A run that begins with a step to `t`. -/
theorem run_succ_of_step {M : Host.Core} {s t : M.State} (h : M.step s = .next t) (k : Nat) : M.run (k + 1) s = M.run k t := by
  rw [Host.Core.run, h]

/-- From inside a quantum, with fuel for the rest of its budget at 4 T-cycles a step, the steps of the model reach the end of the
quantum that `exec_cycles` leaves (R391, R392). -/
theorem State.run_eq_endQuantum_execCycles {fuel : Nat} {s : State} (hrun : s.running = true)
    (hfuel : s.quantum ≤ s.consumed + 4 * fuel) :
    ∃ k u, 1 ≤ k ∧ k ≤ fuel ∧ State.execCycles fuel s = .next u ∧ core.run k s = .next u.endQuantum := by
  induction fuel generalizing s with
  | zero =>
    have hbudget := (State.running_iff.1 hrun).2
    omega
  | succ fuel ih =>
    obtain ⟨t, n, ht, hstep⟩ := s.cpuStep_next
    have hone : step s = .next t.settle := step_of_running hrun ht
    rw [State.execCycles_of_running hrun ht]
    cases hon : t.running with
    | true =>
      have hrest : t.quantum ≤ t.consumed + 4 * fuel := by
        have hn := hstep.bounds.1
        rw [hstep.spends.quantum, hstep.spends.consumed]
        omega
      obtain ⟨k, u, hk, hkf, hexec, hru⟩ := ih hon hrest
      rw [State.settle_of_running hon] at hone
      exact ⟨k + 1, u, Nat.le_add_left _ _, Nat.succ_le_succ hkf, hexec, (run_succ_of_step (M := core) hone k).trans hru⟩
    | false =>
      rw [State.settle_of_not_running hon] at hone
      exact ⟨1, t, le_rfl, Nat.le_add_left _ _, State.execCycles_of_not_running hon fuel, run_succ_of_step (M := core) hone 0⟩

/-- `sleep_cycle` of a live machine, once it is known where `exec_cycles` ends (R391). -/
theorem State.sleepCycle_of_execCycles {s u : State} {input : Buttons} (ha : s.cpuAlive = true)
    (h : State.execCycles (s.quantum / 4 + 1) { s with bus := { s.bus with input := input } } = .next u) :
    s.sleepCycle input = .next u.endQuantum := by
  refine (if_neg fun hd => Bool.false_ne_true (hd.symm.trans ha)).trans ?_
  rw [h]

/-- Settles O56: a quantum with budget left is run to its end step by step, and one that the carry uses up is a single step. -/
theorem stepsRefineSleepCycle : Obligations.StepsRefineSleepCycle := by
  intro s input ha hzero
  set s' : State := { s with bus := { s.bus with input := input } }
  cases hrun : s'.running with
  | true =>
    have hfuel : s'.quantum ≤ s'.consumed + 4 * (s.quantum / 4 + 1) := by
      show s.quantum ≤ s.consumed + 4 * (s.quantum / 4 + 1)
      omega
    obtain ⟨k, u, hk, hkf, hexec, hru⟩ := State.run_eq_endQuantum_execCycles hrun hfuel
    exact ⟨k, hk, hkf, hru.trans (State.sleepCycle_of_execCycles ha hexec).symm⟩
  | false =>
    have hstep : step s' = .next s'.endQuantum := step_of_over ha hrun
    exact ⟨1, le_rfl, Nat.le_add_left _ _, (run_succ_of_step (M := core) hstep 0).trans
      (State.sleepCycle_of_execCycles ha (State.execCycles_of_not_running hrun _)).symm⟩

end Sys2Proof.Machine
end
